-- ==== Sys2Proof/Word.lean ====
section
/-! DEFINITION. The widths of the block's registers and ports (00_scope.md R7, 10_state.md R20, 30_encoding.md R50). -/

namespace Sys2Proof

/-- STATE, 31 bits (`STATE_W`, R7). -/
abbrev StateWord := BitVec 31

/-- COUNT, 32 bits (`COUNT_W`, R7). -/
abbrev CountWord := BitVec 32

/-- CAUSE, 4 bits (`CAUSE_W`, R7). -/
abbrev CauseWord := BitVec 4

/-- PROD, 64 bits (`PROD_W`, R7). -/
abbrev ProdWord := BitVec 64

/-- FOLD, 32 bits (`FOLD_W`, R7). -/
abbrev FoldWord := BitVec 32

/-- The ports `out_data`, `count` and `status`, 32 bits each (R50). -/
abbrev PortWord := BitVec 32

/-- The port `cmd`, 2 bits (R50, R51). -/
abbrev CmdCode := BitVec 2

end Sys2Proof
end

