-- ==== Sys2Proof/Config.lean ====
section
/-! DEFINITION. What is fixed when a block is built (N_ELEMS), and the free values: what the spec leaves open and the
machine goes on from. A free value is an opaque constant with no body. -/

namespace Sys2Proof

/-- What is chosen when a block is built and fixed for its life: the element count `N_ELEMS` (00_scope.md R4).
DESIGN CHOICE (log entry 3): it stands in the state, so that a claim covers every build. -/
structure Config.Build where
  /-- `N_ELEMS`: how many values a generation run produces. -/
  nElems : Nat
deriving DecidableEq, Repr

/-- The normative build, `N_ELEMS` = 2,000,000 (R4, R7). -/
def Config.normative : Config.Build := { nElems := 2000000 }

/-- FREE VALUE (DESIGN CHOICE, log entry 5): what a register of `w` bits holds after an assignment of a value `v` that
does not fit it. R9 calls such an assignment not legal and gives it no result; no reachable state makes one. -/
opaque Config.unfit (w v : Nat) : BitVec w

/-- FREE VALUE (log entry 4): the `w` bits of register number `reg` after `edge` edges since power-on, while no reset
edge has happened ("the value of every register is unspecified", 70_reset_and_hazards.md R112). -/
opaque Config.unspecified (w edge reg : Nat) : BitVec w

end Sys2Proof
end

