-- ==== Sys2Proof/Syntax.lean ====
section
/-! DEFINITION. The commands, one constructor per row of spec/opcode_table.json (30_encoding.md R53). -/

namespace Sys2Proof

/-- The four commands. None has an operand or an immediate (R55), so no constructor has an argument. -/
inductive Instr where
  /-- `NOP`, code `00`: no operation (41_control.md R85). -/
  | nop
  /-- `STEP`, code `01`: advance the recurrence one step and emit the new state (40_step.md R65). -/
  | step
  /-- `RESTART`, code `10`: start a new generation run from SEED (41_control.md R86). -/
  | restart
  /-- `RSVD`, code `11`: the reserved code, which records error cause 1 (41_control.md R87). -/
  | rsvd
deriving DecidableEq, Repr

end Sys2Proof
end

