-- ==== Sys2Proof/WellFormed.lean ====
section
/-! DEFINITION. What is well formed: commands (all of them) and builds (`N_ELEMS` in its range). -/

namespace Sys2Proof

/-- Every command is well formed: no command takes an operand that could be out of range (30_encoding.md R55). Written
arm by arm, so that a command with an operand could not slip past. -/
def Instr.wellFormed : Instr → Bool
  | .nop => true
  | .step => true
  | .restart => true
  | .rsvd => true

/-- The builds that exist: "the block accepts any `N_ELEMS` in the range 1 to 2^32 − 1; a build with `N_ELEMS` outside
that range is refused at elaboration" (00_scope.md R4). -/
def Config.Build.legal (b : Config.Build) : Bool :=
  decide (1 ≤ b.nElems) && decide (b.nElems ≤ 2 ^ 32 - 1)

end Sys2Proof
end

