-- ==== Sys2Proof/Decode.lean ====
section
/-! DEFINITION. Decoding and encoding the 2-bit command code (30_encoding.md R51, R53; spec/opcode_table.json). -/

namespace Sys2Proof

/-- The command map of R53, read bit 1 first. It is total: "The whole 2-bit space is decoded" (R51). -/
def decode (code : CmdCode) : Instr :=
  match code.getLsbD 1, code.getLsbD 0 with
  | false, false => .nop
  | false, true => .step
  | true, false => .restart
  | true, true => .rsvd

/-- Why a sequence of bytes is no command. -/
inductive DecodeRefusal where
  /-- There is no byte, so nothing is on the port. -/
  | noCommand
  /-- A bit above bit 1 is set, which the 2-bit port `cmd` cannot carry (R50, R51). DESIGN CHOICE (log entry 11). -/
  | widerThanPort
  /-- There is more than one byte: every command is one handshake of one code (R51, R56). -/
  | moreThanOneCommand
deriving DecidableEq, Repr

/-- The command in a list of bytes that holds one code in bits 1:0 of its one byte; total, and refusing by name. -/
def decodeBytes : List (BitVec 8) → Except DecodeRefusal Instr
  | [] => .error .noCommand
  | [b] => if b.toNat < 4 then .ok (decode (b.setWidth 2)) else .error .widerThanPort
  | _ :: _ :: _ => .error .moreThanOneCommand

/-- The low `n` bytes of `w`, least significant byte first. -/
def bytesOf : Nat → Nat → List (BitVec 8)
  | 0, _ => []
  | n + 1, w => BitVec.ofNat 8 w :: bytesOf n (w / 256)

/-- The command the decoder reads from the bits `w` of a row of spec/opcode_table.json, given as `nbits` bits in whole
bytes; `none` where it refuses. -/
def decodeTableWord (nbits w : Nat) : Option Instr :=
  match decodeBytes (bytesOf (nbits / 8) w) with
  | .ok i => some i
  | .error _ => none

/-- The code of a command (R53). -/
def encode : Instr → CmdCode
  | .nop => 0b00#2
  | .step => 0b01#2
  | .restart => 0b10#2
  | .rsvd => 0b11#2

end Sys2Proof
end

