-- ==== Sys2Proof/Machine/Constants.lean ====
section
/-! DEFINITION. The constants that no port, command or parameter changes (00_scope.md R3), and the error causes
(60_exceptions.md R96). -/

namespace Sys2Proof.Machine

/-- `M` = 2147483647 = 2^31 − 1, the modulus (R3). -/
def modulus : Nat := 2147483647

/-- `A` = 48271, the multiplier (R3). -/
def multiplier : Nat := 48271

/-- `SEED` = 42, the initial seed (R3). -/
def seed : StateWord := 42#31

/-- CAUSE 0, NONE: no error (R96). -/
def causeNone : CauseWord := 0#4

/-- CAUSE 1, RSVD_CMD: code `11` was accepted (R96). -/
def causeRsvdCmd : CauseWord := 1#4

/-- CAUSE 2, OVERRUN: a STEP was accepted with COUNT = N_ELEMS (R96). -/
def causeOverrun : CauseWord := 2#4

end Sys2Proof.Machine
end

