-- ==== Sys2Proof/Machine/State.lean ====
section
/-! DEFINITION. The state of the block, what the issuer drives, the reasons a step can stop, and the state after
reset (10_state.md R20, R32; 30_encoding.md R50, R61). -/

namespace Sys2Proof.Machine

/-- What the issuer drives on the input ports at one rising edge of `clk` (30_encoding.md R50). -/
structure Pins where
  /-- `rst`: synchronous reset, active high. -/
  rst : Bool
  /-- `cmd_valid`: the issuer presents a command. -/
  cmdValid : Bool
  /-- `cmd`: the command code. -/
  cmd : CmdCode
deriving DecidableEq, Repr

/-- The issuer presents nothing and asserts nothing (R61, "wait"). -/
def Pins.idle : Pins := { rst := false, cmdValid := false, cmd := 0#2 }

/-- Whether the block has had its first reset edge (70_reset_and_hazards.md R112). -/
inductive Phase where
  /-- No reset edge since power-on; `edges` counts the edges since then and indexes the free values of the registers. -/
  | beforeReset (edges : Nat)
  /-- A reset edge has happened: the block's rules hold (R113). -/
  | running
deriving DecidableEq, Repr

/-- Reasons a step stops with a fault: none. The block has no fault and no trap; "the block does not stop" when it
records an error (60_exceptions.md R95, R98, R102). Safe: nothing raises it. -/
inductive Fault where
deriving DecidableEq, Repr

/-- Reasons the model gives a step, or an observation, no meaning. -/
inductive Refusal where
  /-- Raised by an arm of `exec` whose instruction has no meaning yet. Safe: nothing can be claimed of it. -/
  | notModelled (mnemonic : String)
  /-- Raised by every edge of a build whose `N_ELEMS` is outside 1 to 2^32 − 1: "refused at elaboration" (00_scope.md
  R4; 93 U7), so there is no such block. Safe. -/
  | buildOutOfRange (nElems : Nat)
  /-- Raised by an edge, before the first reset edge, at which the issuer presents a command: the model "refuses any
  observation or command before the first reset" (70_reset_and_hazards.md R112; 93 U2). Safe. -/
  | commandBeforeFirstReset
  /-- Raised by looking at the output ports before the first reset edge (R112; 93 U1). Safe. -/
  | observationBeforeFirstReset
deriving DecidableEq, Repr

/-- The state: the nine registers of 10_state.md R20, and beside them the build, whether the first reset has happened,
and what the issuer drives at the coming edges. -/
@[ext]
structure State where
  /-- The build: `N_ELEMS` (00_scope.md R4). No step changes it. -/
  build : Config.Build
  /-- Whether a reset edge has happened (R112). -/
  phase : Phase
  /-- STATE: the current seed state of the recurrence (R21). -/
  state : StateWord
  /-- COUNT: how many values were emitted since the last reset or RESTART (R23). -/
  count : CountWord
  /-- ERR: sticky, an error has been recorded since the last reset (R26). -/
  err : Bool
  /-- CAUSE: the cause code of the first error since the last reset (R26). -/
  cause : CauseWord
  /-- OUT_VALID: 1 for the one cycle after a STEP write-back (R31). -/
  outValid : Bool
  /-- V1: pipeline stage 1 holds a STEP (R30). -/
  v1 : Bool
  /-- PROD: the product `STATE * A` (R30). -/
  prod : ProdWord
  /-- V2: pipeline stage 2 holds a STEP (R30). -/
  v2 : Bool
  /-- FOLD: the folded product (R30). -/
  fold : FoldWord
  /-- What the issuer drives at each coming edge, the next edge first; past the end of the list it drives nothing.
  DESIGN CHOICE (log entry 2). -/
  pins : List Pins
deriving DecidableEq, Repr

/-- The block right after a reset edge (10_state.md R32, 70_reset_and_hazards.md R110), in its normative build, with an
issuer that presents nothing (log entries 2, 3 and 10). -/
def State.reset : State where
  build := Config.normative
  phase := .running
  state := seed
  count := 0#32
  err := false
  cause := causeNone
  outValid := false
  v1 := false
  prod := 0#64
  v2 := false
  fold := 0#32
  pins := []

end Sys2Proof.Machine
end

