-- ==== Sys2Proof/Machine/Ops.lean ====
section
/-! DEFINITION. The named operations over registers: the multiply–reduce datapath (40_step.md R70 to R72), the writes of
each pipeline stage (70_reset_and_hazards.md R114 to R117), recording an error (60_exceptions.md R97), starting a run,
and reset. Arithmetic is exact on natural numbers and narrowed in one place (00_scope.md R9). -/

namespace Sys2Proof.Machine

/-- `REG <- v` for a register of `w` bits (00_scope.md R9, R10): `v` where it fits; the spec gives an assignment that
does not fit no result, and the register then holds a free value (DESIGN CHOICE, log entry 5). -/
def assign (w v : Nat) : BitVec w :=
  if v < 2 ^ w then BitVec.ofNat w v else Config.unfit w v

/-! ### The datapath -/

/-- Stage 1: `P = zext_64(STATE) * zext_64(A)` (40_step.md R70). -/
def multiply (x : StateWord) : ProdWord := assign 64 (x.toNat * multiplier)

/-- Stage 2: `F = zext_32(P[30:0]) + zext_32(P[63:31])` (R71). -/
def foldProduct (p : ProdWord) : FoldWord :=
  assign 32 ((p.extractLsb 30 0).toNat + (p.extractLsb 63 31).toNat)

/-- Stage 3: `R = F − M` if `F >= M`, else `R = F` (R72). -/
def subtractOnce (f : FoldWord) : StateWord :=
  assign 31 (if modulus ≤ f.toNat then f.toNat - modulus else f.toNat)

/-! ### The register writes of one edge -/

/-- Stage 1, at the edge that accepts a STEP: `PROD <- zext_64(STATE) * zext_64(A)`, `V1 <- 1` (R114). -/
def State.loadProduct (s : State) : State := { s with prod := multiply s.state, v1 := true }

/-- Stage 2: `FOLD <- zext_32(PROD[30:0]) + zext_32(PROD[63:31])`, `V2 <- 1`, `V1 <- 0` (R115). -/
def State.loadFold (s : State) : State := { s with fold := foldProduct s.prod, v2 := true, v1 := false }

/-- Stage 3, the write-back: `STATE <- (FOLD >= M) ? FOLD − M : FOLD`, `COUNT <- COUNT + 1`, `OUT_VALID <- 1`,
`V2 <- 0` (R116); it realises `emit` (40_step.md R73). -/
def State.writeBack (s : State) : State :=
  { s with state := subtractOnce s.fold, count := assign 32 (s.count.toNat + 1), outValid := true, v2 := false }

/-- `OUT_VALID <- 0`, at an edge without a write-back (R117). -/
def State.dropOutValid (s : State) : State := { s with outValid := false }

/-- `ERR <- 1`, `CAUSE <- c`: the writes of an error that is recorded (60_exceptions.md R97). -/
def State.latchError (c : CauseWord) (s : State) : State := { s with err := true, cause := c }

/-- `STATE <- SEED`, `COUNT <- 0`: the start of a generation run (41_control.md R86). -/
def State.startRun (s : State) : State := { s with state := seed, count := 0#32 }

/-- A reset edge: every register takes its reset value, whatever it held (70_reset_and_hazards.md R110). The build is
not a register, and what the issuer drives at later edges is not the block's. -/
def State.resetRegisters (s : State) : State := { State.reset with build := s.build, pins := s.pins }

/-- Every register holds a free value: `edge` edges after power-on with no reset edge among them (R112, log entry 4). -/
def State.unspecify (edge : Nat) (s : State) : State :=
  { s with
    phase := .beforeReset edge
    state := Config.unspecified 31 edge 0
    count := Config.unspecified 32 edge 1
    err := (Config.unspecified 1 edge 2).getLsbD 0
    cause := Config.unspecified 4 edge 3
    outValid := (Config.unspecified 1 edge 4).getLsbD 0
    v1 := (Config.unspecified 1 edge 5).getLsbD 0
    prod := Config.unspecified 64 edge 6
    v2 := (Config.unspecified 1 edge 7).getLsbD 0
    fold := Config.unspecified 32 edge 8 }

/-- The block at power-on, before any edge (R112), with a build and an issuer. -/
def State.powerOn (b : Config.Build) (pins : List Pins) : State :=
  State.unspecify 0 { State.reset with build := b, pins := pins }

/-! ### Errors -/

/-- `record_error(c)` (60_exceptions.md R97): the first error since the last reset sets ERR and CAUSE; a later one
changes nothing. This block's errors are not traps: no state is saved and no control is transferred (R98, R102). -/
def recordError (c : CauseWord) (s : State) : State := if s.err then s else s.latchError c

/-! ### An edge at which no command is accepted -/

/-- Stage 3 where V2 = 1, and the fall of OUT_VALID where it is 0 (70_reset_and_hazards.md R116, R117). -/
def stageThree (s : State) : State := if s.v2 then s.writeBack else s.dropOutValid

/-- Stage 2 where V1 = 1 (R115). -/
def stageTwo (s : State) : State := if s.v1 then s.loadFold else s

/-- The pipeline's own writes at one edge, in the order of R120: stage 3 and then stage 2. Neither reads what the other
writes; where both write V2 (V1 = V2 = 1, unreachable) the later write stands (DEDUCED, log entry 8). -/
def advance (s : State) : State := stageTwo (stageThree s)

end Sys2Proof.Machine
end

