-- ==== Sys2Proof/Machine/Operands.lean ====
section
/-! DEFINITION. What an edge reads from outside. No command has an operand (30_encoding.md R55); the one input of an
edge is what the issuer drives on `rst`, `cmd_valid` and `cmd` (R50). -/

namespace Sys2Proof.Machine

/-- What the issuer drives at the coming edge; nothing once the list is used up (R61, "wait"; log entry 2). -/
def State.inputNow (s : State) : Pins := s.pins.headD Pins.idle

/-- The state with the issuer moved on to the edge after the coming one. -/
def State.nextInputs (s : State) : State := { s with pins := s.pins.tail }

/-- The issuer drives `p` at the coming edge, in place of what it would have driven there. -/
def State.drive (p : Pins) (s : State) : State := { s with pins := p :: s.pins.tail }

/-- A block that accepts a command at the coming edge: past its first reset, with no STEP in flight (30_encoding.md R52,
70_reset_and_hazards.md R112). -/
def State.makeReady (s : State) : State := { s with phase := .running, v1 := false, v2 := false }

/-- The input ports while the issuer presents the command `code` (30_encoding.md R58). -/
def Pins.present (code : CmdCode) : Pins := { rst := false, cmdValid := true, cmd := code }

/-- The input ports while the issuer asserts `rst` and presents nothing (R60, `@RESET`). -/
def Pins.assertReset : Pins := { rst := true, cmdValid := false, cmd := 0#2 }

end Sys2Proof.Machine
end

