-- ==== Sys2Proof/Machine/Flags.lean ====
section
/-! DEFINITION. The flags computed from registers, and the output ports (10_state.md R24, R25, R27, R33, R34;
30_encoding.md R50, R52). -/

namespace Sys2Proof.Machine

/-- DONE = (COUNT == N_ELEMS) (10_state.md R24). -/
def State.done (s : State) : Bool := s.count.toNat == s.build.nElems

/-- BUSY = V1 OR V2 (R25). -/
def State.busy (s : State) : Bool := s.v1 || s.v2

/-- `cmd_ready` = (NOT BUSY) AND (NOT rst) (30_encoding.md R52), `rst` being what the issuer drives in this cycle. So it
is 0 while `rst = 1` before the first reset edge too, as R52 and 70_reset_and_hazards.md R111 say, though R112 calls
`cmd_ready` unspecified there (DEDUCED, log entry 21). -/
def State.cmdReady (s : State) : Bool := !s.busy && !s.inputNow.rst

/-- The port `out_data` = zext_32(STATE) (10_state.md R33). -/
def State.outData (s : State) : PortWord := s.state.setWidth 32

/-- The port `status` = `{24'b0, CAUSE, OUT_VALID, ERR, DONE, BUSY}` (R27). -/
def State.status (s : State) : PortWord :=
  0#24 ++ s.cause ++ BitVec.ofBool s.outValid ++ BitVec.ofBool s.err ++ BitVec.ofBool s.done ++ BitVec.ofBool s.busy

/-- The output ports in one cycle (30_encoding.md R50): one snapshot of the state (20_memory.md R43). -/
structure Ports where
  /-- `cmd_ready` -/
  cmdReady : Bool
  /-- `out_valid` -/
  outValid : Bool
  /-- `out_data` -/
  outData : PortWord
  /-- `count` -/
  count : PortWord
  /-- `status` -/
  status : PortWord
deriving DecidableEq, Repr

/-- The output ports of a block past its first reset (10_state.md R33). Reading them changes nothing: this is a function
of the state, and no step. -/
def State.ports (s : State) : Ports where
  cmdReady := s.cmdReady
  outValid := s.outValid
  outData := s.outData
  count := s.count
  status := s.status

/-- Looking at the output ports: refused before the first reset edge (70_reset_and_hazards.md R112) and of a build that
does not exist (00_scope.md R4). -/
def State.observe (s : State) : Host.Outcome Ports Fault Refusal :=
  if s.build.legal then
    match s.phase with
    | .running => .next s.ports
    | .beforeReset _ => .refused .observationBeforeFirstReset
  else .refused (.buildOutOfRange s.build.nElems)

/-- The value the last edge emitted, if it emitted one: OUT_VALID is 1 exactly in the cycle after a write-back, and
`out_data` then shows the value (40_step.md R73, 10_state.md R31; log entry 13). A generation run starts at a reset or an
accepted RESTART (40_step.md R80), so nothing seen before the first reset counts as emitted. -/
def State.emitted (s : State) : Option PortWord :=
  match s.phase with
  | .running => if s.outValid then some s.outData else none
  | .beforeReset _ => none

end Sys2Proof.Machine
end

