-- ==== Sys2Proof/Machine/Control.lean ====
section
/-! DEFINITION. The commands that compute nothing (41_control.md): each performs its whole rule at its acceptance edge
(70_reset_and_hazards.md R119), where OUT_VALID falls (R117). -/

namespace Sys2Proof.Machine

/-- `NOP` (41_control.md R85): no architectural register changes. -/
def execNop (s : State) : Host.Outcome State Fault Refusal := .next s.dropOutValid

/-- `RESTART` (R86): `STATE <- SEED`, `COUNT <- 0`; ERR and CAUSE are kept. -/
def execRestart (s : State) : Host.Outcome State Fault Refusal := .next s.dropOutValid.startRun

/-- `RSVD`, the reserved code (R87): `record_error(1)`; STATE and COUNT unchanged. -/
def execRsvd (s : State) : Host.Outcome State Fault Refusal := .next (recordError causeRsvdCmd s.dropOutValid)

end Sys2Proof.Machine
end

