-- ==== Sys2Proof/Machine/StepCommand.lean ====
section
/-! DEFINITION. The command that computes (40_step.md). -/

namespace Sys2Proof.Machine

/-- `STEP` at its acceptance edge (40_step.md R65; 70_reset_and_hazards.md R114, R117, R120). With COUNT = N_ELEMS it is
an overrun: `record_error(2)` and no computation (R75). Else stage 1 takes it, and the two edges after this one fold and
write back (`advance`, R115, R116). OUT_VALID falls in both (DEDUCED for the overrun, log entry 6). -/
def execStep (s : State) : Host.Outcome State Fault Refusal :=
  if s.done then .next (recordError causeOverrun s.dropOutValid) else .next s.dropOutValid.loadProduct

end Sys2Proof.Machine
end

