-- ==== Sys2Proof/Machine/Dispatch.lean ====
section
/-! DEFINITION. The effect of an accepted command at its acceptance edge, one arm per command
(70_reset_and_hazards.md R120, `case cmd of`). -/

namespace Sys2Proof.Machine

def exec (i : Instr) (s : State) : Host.Outcome State Fault Refusal :=
  match i with
  | .nop => Sys2Proof.Machine.execNop s
  | .step => Sys2Proof.Machine.execStep s
  | .restart => Sys2Proof.Machine.execRestart s
  | .rsvd => Sys2Proof.Machine.execRsvd s

end Sys2Proof.Machine
end

