-- ==== Sys2Proof/Machine/Edge.lean ====
section
/-! DEFINITION. One rising edge of `clk` (70_reset_and_hazards.md R120), with the refusals of R4 and R112 around it. -/

namespace Sys2Proof.Machine

/-- One rising edge of `clk` at which the issuer drives `p` (R120).

A build with `N_ELEMS` out of range is refused (00_scope.md R4). A reset wins over everything else (R110, 60_exceptions.md
R100). Before the first reset edge a command is refused, and an edge with none leaves every register unspecified (R112,
log entry 4). After it, a command is accepted exactly when `cmd_valid = 1` and BUSY = 0 (`cmd_ready` with `rst = 0`,
30_encoding.md R52), and then V1 = V2 = 0, so the pipeline has nothing to write; at any other edge the pipeline
advances (R115 to R117). -/
def edge (p : Pins) (s : State) : Host.Outcome State Fault Refusal :=
  if s.build.legal then
    if p.rst then .next s.resetRegisters
    else
      match s.phase with
      | .beforeReset n =>
        if p.cmdValid then .refused .commandBeforeFirstReset else .next (s.unspecify (n + 1))
      | .running => if p.cmdValid && !s.busy then exec (decode p.cmd) s else .next (advance s)
  else .refused (.buildOutOfRange s.build.nElems)

end Sys2Proof.Machine
end

