-- ==== Sys2Proof/Machine/Step.lean ====
section
/-! DEFINITION. The step of the machine: one rising edge of `clk` (70_reset_and_hazards.md R120), at which the issuer
drives the head of `pins`. -/

namespace Sys2Proof.Machine

/-- One rising edge, with what the issuer drives at it; the issuer then moves on. -/
def step (s : State) : Host.Outcome State Fault Refusal := edge s.inputNow s.nextInputs

/-- `s` with the issuer presenting, at the coming edge, the command whose code is in bits 1:0 of `w`, and the block ready
to accept it (log entry 10). The block fetches nothing (10_state.md R28): commands arrive on `cmd` (20_memory.md R49). -/
def State.withFetchWord (s : State) (_nbits w : Nat) : State := (s.drive (Pins.present (BitVec.ofNat 2 w))).makeReady

end Sys2Proof.Machine
end

