-- ==== Sys2Proof/Machine/Assembler.lean ====
section
/-! DEFINITION. The text syntax for command streams (30_encoding.md R58 to R60): its lines, their reading from text, and
what each tells the issuer to do. -/

namespace Sys2Proof.Machine

/-- The ports an `@EXPECT` can name: the five output ports of R50. R60 says `<port>` and R50 lists nine; that the four
input ports are not admitted is the model's choice (DESIGN CHOICE, log entry 19). -/
inductive PortName where
  | cmdReady
  | outValid
  | outData
  | count
  | status
deriving DecidableEq, Repr

/-- A line of a command stream: a mnemonic, a pseudo-instruction or a directive (R58). -/
inductive Line where
  /-- A mnemonic (R58). -/
  | mnemonic (i : Instr)
  /-- `.cmd 0bXY`: the raw code `XY` (R58). -/
  | raw (code : CmdCode)
  /-- `GEN k`: `k` lines `STEP` (R59). -/
  | gen (k : Nat)
  /-- `RUN`: `RESTART` and then `GEN N_ELEMS` (R59). -/
  | run
  /-- `@RESET` (R60). -/
  | reset
  /-- `@IDLE k` (R60). -/
  | idle (k : Nat)
  /-- `@EXPECT <port> = <value>` (R60). -/
  | expect (port : PortName) (value : Nat)
deriving DecidableEq, Repr

/-- What one expanded line tells the issuer to do. -/
inductive Action where
  /-- Present the code until it is accepted (R58). -/
  | present (code : CmdCode)
  /-- Assert `rst` for one edge with `cmd_valid = 0` (R60). -/
  | reset
  /-- Hold `cmd_valid = 0` for `k` edges (R60). -/
  | idle (k : Nat)
  /-- Check a port in the cycle after the previous line completed; drive nothing (R60). -/
  | expect (port : PortName) (value : Nat)
deriving DecidableEq, Repr

/-- A line expanded (R58 to R60); a pseudo-instruction has no code of its own. -/
def Line.expand (b : Config.Build) : Line → List Action
  | .mnemonic i => [.present (encode i)]
  | .raw code => [.present code]
  | .gen k => List.replicate k (.present (encode .step))
  | .run => .present (encode .restart) :: List.replicate b.nElems (.present (encode .step))
  | .reset => [.reset]
  | .idle k => [.idle k]
  | .expect port value => [.expect port value]

/-- A program expanded, line by line. -/
def expandProgram (b : Config.Build) (lines : List Line) : List Action := lines.flatMap (Line.expand b)

/-- The codes a list of actions presents, in order; directives have none (R60). -/
def codesOf (actions : List Action) : List CmdCode :=
  actions.filterMap fun a =>
    match a with
    | .present code => some code
    | .reset => none
    | .idle _ => none
    | .expect _ _ => none

/-! ### Reading a line from text -/

/-- Why a line of text is no line of a command stream. -/
inductive SyntaxRefusal where
  /-- The line holds no word beside its comment (R58: "Each line holds one mnemonic, one pseudo-instruction or one
  directive"). -/
  | emptyLine
  /-- Its first word is no mnemonic, pseudo-instruction or directive. -/
  | unknownWord
  /-- Its operands are not those of its first word. -/
  | badOperand
deriving DecidableEq, Repr

/-- The pieces between separators, empty pieces included. -/
def pieces (isSeparator : Char → Bool) : List Char → List (List Char)
  | [] => [[]]
  | c :: cs =>
    match pieces isSeparator cs with
    | [] => [[]]
    | w :: ws => if isSeparator c then [] :: w :: ws else (c :: w) :: ws

/-- The words of a line before its comment, which runs "from `;` to the end of the line" (R58). -/
def wordsOf (line : List Char) : List (List Char) :=
  (pieces (fun c => c == ' ' || c == '\t') (line.takeWhile (· != ';'))).filter fun w => !w.isEmpty

/-- The value of a digit in a base up to 16. -/
def digitValue (base : Nat) (c : Char) : Option Nat :=
  let v :=
    if '0' ≤ c ∧ c ≤ '9' then c.toNat - '0'.toNat
    else if 'a' ≤ c ∧ c ≤ 'f' then c.toNat - 'a'.toNat + 10
    else if 'A' ≤ c ∧ c ≤ 'F' then c.toNat - 'A'.toNat + 10
    else base
  if v < base then some v else none

/-- The digits of a number read after a value already read; `_` has no value. 00_scope.md R8 gives `_` to hexadecimal
literals, as a separator of digits; that it is read in decimal numbers too (`GEN 1_0`), twice running and after the last
digit (`5_`) is the model's choice (DESIGN CHOICE, log entry 17). -/
def digitsAfter (base acc : Nat) : List Char → Option Nat
  | [] => some acc
  | c :: cs =>
    if c = '_' then digitsAfter base acc cs
    else
      match digitValue base c with
      | some v => digitsAfter base (acc * base + v) cs
      | none => none

/-- A number that begins with a digit of its base, and never with `_` (log entry 17). -/
def digitsOf (base : Nat) : List Char → Option Nat
  | [] => none
  | c :: cs =>
    match digitValue base c with
    | some v => digitsAfter base v cs
    | none => none

/-- A decimal literal, or a hexadecimal one written `0x...` (R8; log entry 17). -/
def numberOf (word : List Char) : Option Nat :=
  match word with
  | '0' :: 'x' :: ds => digitsOf 16 ds
  | ds => digitsOf 10 ds

/-- The raw code of `0bXY` (R58): two binary digits. -/
def rawCodeOf (word : List Char) : Option CmdCode :=
  match word with
  | ['0', 'b', x, y] =>
    match digitValue 2 x, digitValue 2 y with
    | some a, some b => some (BitVec.ofNat 2 (2 * a + b))
    | _, _ => none
  | _ => none

/-- The output port a word names (R50). Any other word, `clk`, `rst`, `cmd_valid` and `cmd` among them, names none here
(DESIGN CHOICE, log entry 19). -/
def portOf (word : List Char) : Option PortName :=
  if word = ['c', 'm', 'd', '_', 'r', 'e', 'a', 'd', 'y'] then some .cmdReady
  else if word = ['o', 'u', 't', '_', 'v', 'a', 'l', 'i', 'd'] then some .outValid
  else if word = ['o', 'u', 't', '_', 'd', 'a', 't', 'a'] then some .outData
  else if word = ['c', 'o', 'u', 'n', 't'] then some .count
  else if word = ['s', 't', 'a', 't', 'u', 's'] then some .status
  else none

/-- A line with no operand. -/
def withoutOperand (l : Line) (operands : List (List Char)) : Except SyntaxRefusal Line :=
  if operands = [] then .ok l else .error .badOperand

/-- A line with one operand. -/
def withOperand {α : Type} (read : List Char → Option α) (f : α → Line) :
    List (List Char) → Except SyntaxRefusal Line
  | [w] =>
    match read w with
    | some a => .ok (f a)
    | none => .error .badOperand
  | _ => .error .badOperand

/-- The operands of `@EXPECT`: a port, an equals sign and a value (R60). -/
def withExpectation : List (List Char) → Except SyntaxRefusal Line
  | [port, ['='], value] =>
    match portOf port, numberOf value with
    | some p, some v => .ok (.expect p v)
    | _, _ => .error .badOperand
  | _ => .error .badOperand

/-- A line of text read (R58 to R60); total, and refusing by name. -/
def readLine (text : List Char) : Except SyntaxRefusal Line :=
  match wordsOf text with
  | [] => .error .emptyLine
  | w :: ops =>
    if w = ['N', 'O', 'P'] then withoutOperand (.mnemonic .nop) ops
    else if w = ['S', 'T', 'E', 'P'] then withoutOperand (.mnemonic .step) ops
    else if w = ['R', 'E', 'S', 'T', 'A', 'R', 'T'] then withoutOperand (.mnemonic .restart) ops
    else if w = ['R', 'S', 'V', 'D'] then withoutOperand (.mnemonic .rsvd) ops
    else if w = ['.', 'c', 'm', 'd'] then withOperand rawCodeOf .raw ops
    else if w = ['G', 'E', 'N'] then withOperand (digitsOf 10) .gen ops
    else if w = ['R', 'U', 'N'] then withoutOperand .run ops
    else if w = ['@', 'R', 'E', 'S', 'E', 'T'] then withoutOperand .reset ops
    else if w = ['@', 'I', 'D', 'L', 'E'] then withOperand (digitsOf 10) .idle ops
    else if w = ['@', 'E', 'X', 'P', 'E', 'C', 'T'] then withExpectation ops
    else .error .unknownWord

/-- A program read: one line of text after another, the first refusal standing for the whole. -/
def readProgram : List (List Char) → Except SyntaxRefusal (List Line)
  | [] => .ok []
  | text :: rest =>
    match readLine text, readProgram rest with
    | .ok l, .ok ls => .ok (l :: ls)
    | .error e, _ => .error e
    | .ok _, .error e => .error e

/-- The lines of a text. R58 says only "a list of lines"; that the newline stands between two lines, so that a text which
ends in one has an empty last line, which `readProgram` refuses as `emptyLine`, is the model's choice (DESIGN CHOICE, log
entry 23). -/
def linesOf (text : List Char) : List (List Char) := pieces (· == '\n') text

end Sys2Proof.Machine
end

