-- ==== Sys2Proof/Machine/Transaction.lean ====
section
/-! DEFINITION. The transaction level (00_scope.md R11): each accepted command as one atomic transition of STATE, COUNT,
ERR and CAUSE, and the sequence a generation run produces (40_step.md R66, R68). It is written apart from the cycle
level, which refines it (70_reset_and_hazards.md R125). -/

namespace Sys2Proof.Machine

/-- The transaction-level state (10_state.md R20). -/
structure Arch where
  /-- STATE -/
  state : StateWord
  /-- COUNT -/
  count : CountWord
  /-- ERR -/
  err : Bool
  /-- CAUSE -/
  cause : CauseWord
deriving DecidableEq, Repr

/-- The transaction-level state after reset (10_state.md R32). -/
def Arch.reset : Arch := { state := seed, count := 0#32, err := false, cause := causeNone }

/-- The architectural registers of the block. -/
def State.arch (s : State) : Arch := { state := s.state, count := s.count, err := s.err, cause := s.cause }

/-- `(x * 48271) mod 2147483647` in exact arithmetic: the recurrence (00_scope.md R1, 40_step.md R66). -/
def successor (x : Nat) : Nat := x * multiplier % modulus

/-- STATE after `k` steps from SEED (R68). -/
def stateAfter : Nat → Nat
  | 0 => seed.toNat
  | k + 1 => successor (stateAfter k)

/-- `sequence[i]`, the value emitted by the (i+1)-th STEP of a run (00_scope.md R12, 40_step.md R67, R68). R67 adds that 42
is never emitted; by R66 and R78 STEP number M − 1 of a run emits it, in a build with N_ELEMS ≥ M − 1, and the model
follows R66 (DEDUCED, log entry 22). -/
def sequenceAt (i : Nat) : Nat := stateAfter (i + 1)

/-- `record_error(c)` at the transaction level (60_exceptions.md R97). -/
def Arch.recordError (c : CauseWord) (a : Arch) : Arch := if a.err then a else { a with err := true, cause := c }

/-- One accepted command as an atomic transition, with the value it emits (40_step.md R65, R66, R75; 41_control.md R85 to
R87). STEP is written by the exact residue of R66 and not by the datapath of R70 to R72 (log entry 18). -/
def transact (b : Config.Build) (i : Instr) (a : Arch) : Arch × Option PortWord :=
  match i with
  | .nop => (a, none)
  | .step =>
    if a.count.toNat = b.nElems then (a.recordError causeOverrun, none)
    else
      ({ a with state := assign 31 (successor a.state.toNat), count := assign 32 (a.count.toNat + 1) },
        some (assign 32 (successor a.state.toNat)))
  | .restart => ({ a with state := seed, count := 0#32 }, none)
  | .rsvd => (a.recordError causeRsvdCmd, none)

/-- Commands in the order of their acceptance (20_memory.md R46), with the values they emit, in order. -/
def transactAll (b : Config.Build) : List Instr → Arch → Arch × List PortWord
  | [], a => (a, [])
  | i :: is, a =>
    let one := transact b i a
    let rest := transactAll b is one.1
    (rest.1, one.2.toList ++ rest.2)

end Sys2Proof.Machine
end

