-- ==== Sys2Proof/Machine/Trace.lean ====
section
/-! DEFINITION. What a run of edges shows: the commands accepted and the values emitted since the last reset
(40_step.md R73, R80; 70_reset_and_hazards.md R125). It is an observation of runs; the block itself holds no sequence
(00_scope.md R6, log entry 13). -/

namespace Sys2Proof.Machine

/-- Whether the coming edge accepts a command (30_encoding.md R52). -/
def State.accepts (s : State) : Bool := s.inputNow.cmdValid && s.cmdReady

/-- The command the coming edge accepts, if it accepts one (R52). -/
def State.acceptedNow (s : State) : Option Instr := if s.accepts then some (decode s.inputNow.cmd) else none

/-- `k` edges, stopping at the first refusal. -/
def runSteps : Nat → State → Host.Outcome State Fault Refusal
  | 0, s => .next s
  | k + 1, s =>
    match step s with
    | .next t => runSteps k t
    | .fault r => .fault r
    | .refused r => .refused r

/-- What has been accepted and emitted, since the last reset or since looking began. -/
structure History where
  /-- The transaction-level state there. -/
  base : Arch
  /-- The commands accepted since, in order. -/
  accepted : List Instr
  /-- The values emitted since, in order. -/
  emitted : List PortWord
deriving DecidableEq, Repr

/-- Looking begins at `s`. -/
def State.history (s : State) : History := { base := s.arch, accepted := [], emitted := [] }

/-- The history after the edge that takes `s` to `t`. A reset edge begins it anew: a STEP it discards "is, at the
transaction level, a command that was never accepted" (R125). -/
def History.extend (h : History) (s t : State) : History :=
  if s.inputNow.rst then { base := Arch.reset, accepted := [], emitted := [] }
  else
    { base := h.base, accepted := h.accepted ++ s.acceptedNow.toList, emitted := h.emitted ++ t.emitted.toList }

/-- `k` edges, with the history they extend. -/
def runEdges : Nat → State → History → Host.Outcome (State × History) Fault Refusal
  | 0, s, h => .next (s, h)
  | k + 1, s, h =>
    match step s with
    | .next t => runEdges k t (h.extend s t)
    | .fault r => .fault r
    | .refused r => .refused r

/-- No reset edge among the next `k` edges. -/
def State.noReset (k : Nat) (s : State) : Bool := (s.pins.take k).all fun p => !p.rst

/-- A generation run is complete: COUNT = N_ELEMS and BUSY = 0 (40_step.md R80). -/
def State.runComplete (s : State) : Bool := s.done && !s.busy

end Sys2Proof.Machine
end

