-- ==== Sys2Proof/Machine/Issuer.lean ====
section
/-! DEFINITION. An issuer that plays a command stream against the block (30_encoding.md R58, R60), edge by edge, through
the handshake (R52). The general issuer, free at every edge (R61), is `State.pins`; this one is a closed loop over it. -/

namespace Sys2Proof.Machine

/-- A block being driven, with the values it has emitted and the outcomes of the checks made, both in order. -/
structure Bench where
  /-- The block. -/
  block : State
  /-- The values emitted so far (40_step.md R73). -/
  emitted : List PortWord
  /-- The outcome of each `@EXPECT` so far. -/
  checks : List Bool
  /-- Whether the last line that acted was a command, so that it is complete only once the command is (log entry 12). -/
  afterCommand : Bool
deriving DecidableEq, Repr

/-- One computation after another, stopping at the first fault or refusal. -/
def andThen {α β : Type} (o : Host.Outcome α Fault Refusal) (f : α → Host.Outcome β Fault Refusal) :
    Host.Outcome β Fault Refusal :=
  match o with
  | .next a => f a
  | .fault r => .fault r
  | .refused r => .refused r

/-- One rising edge at which this issuer drives `p`. -/
def tick (p : Pins) (r : Bench) : Host.Outcome Bench Fault Refusal :=
  andThen (step (r.block.drive p)) fun t => .next { r with block := t, emitted := r.emitted ++ t.emitted.toList }

/-- `k` edges at which this issuer drives `p`. -/
def ticks (p : Pins) : Nat → Bench → Host.Outcome Bench Fault Refusal
  | 0, r => .next r
  | k + 1, r => andThen (tick p r) (ticks p k)

/-- Edges at which this issuer drives `p`, while BUSY = 1 and at most `k` of them: the block lifts BUSY by itself in at
most two (30_encoding.md R61, 70_reset_and_hazards.md R118). -/
def ticksWhileBusy (p : Pins) : Nat → Bench → Host.Outcome Bench Fault Refusal
  | 0, r => .next r
  | k + 1, r => if r.block.busy then andThen (tick p r) (ticksWhileBusy p k) else .next r

/-- Present a code until it is accepted: held through the edges with BUSY = 1 and then accepted at the next (R58). -/
def presentUntilAccepted (code : CmdCode) (r : Bench) : Host.Outcome Bench Fault Refusal :=
  andThen (ticksWhileBusy (Pins.present code) 2 r) (tick (Pins.present code))

/-- The value of a named port. -/
def Ports.value (p : Ports) : PortName → Nat
  | .cmdReady => p.cmdReady.toNat
  | .outValid => p.outValid.toNat
  | .outData => p.outData.toNat
  | .count => p.count.toNat
  | .status => p.status.toNat

/-- Go on until the last line that acted is complete (R58, R60). A command's line is complete once the command is, that is
once BUSY = 0 (20_memory.md R47, 70_reset_and_hazards.md R126), the issuer presenting nothing meanwhile; `@RESET` is after
its one edge and `@IDLE k` after its `k` edges, whatever is in flight (DEDUCED, log entry 12). -/
def untilComplete (r : Bench) : Host.Outcome Bench Fault Refusal :=
  if r.afterCommand then ticksWhileBusy Pins.idle 2 r else .next r

/-- Look at a port, in a cycle in which the issuer asserts and presents nothing, and note whether it shows the value. No
edge passes: a check "drives nothing" (R60). -/
def check (port : PortName) (value : Nat) (r : Bench) : Host.Outcome Bench Fault Refusal :=
  andThen (r.block.drive Pins.idle).observe fun ports =>
    .next { r with checks := r.checks ++ [ports.value port == value] }

/-- One action of the issuer (R58, R60). The next line begins after a command's acceptance; only `@EXPECT` waits for the
line before it to be complete (log entry 12). -/
def perform (a : Action) (r : Bench) : Host.Outcome Bench Fault Refusal :=
  match a with
  | .present code => andThen (presentUntilAccepted code r) fun r' => .next { r' with afterCommand := true }
  | .reset => andThen (tick Pins.assertReset r) fun r' => .next { r' with afterCommand := false }
  | .idle k => andThen (ticks Pins.idle k r) fun r' => .next { r' with afterCommand := false }
  | .expect port value => andThen (untilComplete r) (check port value)

/-- A list of actions, one after another. -/
def performAll : List Action → Bench → Host.Outcome Bench Fault Refusal
  | [], r => .next r
  | a :: rest, r => andThen (perform a r) (performAll rest)

/-- A command stream played against a block of a build, from power-on (70_reset_and_hazards.md R112, R113), until its last
line is complete. R58 and R60 do not say how long `clk` runs after the last line; that a last command is given the edges
it needs to complete, and that nothing runs after that, is the model's choice (DESIGN CHOICE, log entry 20). -/
def play (b : Config.Build) (lines : List Line) : Host.Outcome Bench Fault Refusal :=
  andThen
    (performAll (expandProgram b lines)
      { block := State.powerOn b [], emitted := [], checks := [], afterCommand := false })
    untilComplete

end Sys2Proof.Machine
end

