-- ==== Sys2Proof/Safety.lean ====
section
/-! DEFINITION. What claims are stated in terms of: the states a block can be in after a reset, and a run without a
recorded error. -/

namespace Sys2Proof.Machine

/-- A block that exists and is past its first reset edge, whatever its registers hold: the block's rules hold of it
(00_scope.md R4; 70_reset_and_hazards.md R112, R113). -/
def State.live (s : State) : Bool := s.build.legal && decide (s.phase = .running)

/-- Facts that hold in every state reachable from a reset of a build that exists (10_state.md R22, R23, R26, R30, R31;
40_step.md R70, R71; 60_exceptions.md R96). As a premise it leaves out the start states that
93_implementation_defined.md has a model refuse (U1 to U3, U5, U7); the step itself computes from those of U3 and U5 (log
entry 9). -/
structure BlockInv (s : State) : Prop where
  /-- The build exists (00_scope.md R4). -/
  build_legal : s.build.legal = true
  /-- A reset edge has happened (70_reset_and_hazards.md R112). -/
  running : s.phase = .running
  /-- `1 <= STATE` (R22). -/
  state_pos : 1 ≤ s.state.toNat
  /-- `STATE <= M − 1` (R22). -/
  state_lt : s.state.toNat < modulus
  /-- "COUNT never exceeds N_ELEMS" (R23). -/
  count_le : s.count.toNat ≤ s.build.nElems
  /-- "CAUSE = 0 exactly when ERR = 0" (R26). -/
  cause_none : s.cause = causeNone ↔ s.err = false
  /-- "CAUSE codes 3 to 15 are never recorded" (R96). -/
  cause_legal : s.cause.toNat ≤ 2
  /-- At most one STEP is in flight (R118). -/
  one_in_flight : ¬(s.v1 = true ∧ s.v2 = true)
  /-- A STEP in stage 1 holds its product, and is no overrun (R114). -/
  stage_one : s.v1 = true → s.prod.toNat = s.state.toNat * multiplier ∧ s.count.toNat < s.build.nElems
  /-- A STEP in stage 2 holds its folded product, and is no overrun (R115). -/
  stage_two : s.v2 = true →
    s.fold.toNat = s.state.toNat * multiplier % 2 ^ 31 + s.state.toNat * multiplier / 2 ^ 31 ∧
      s.count.toNat < s.build.nElems
  /-- "`P[63:47] = 0` always" (R70). -/
  prod_lt : s.prod.toNat < 2 ^ 47
  /-- `F <= 2147531917` (R71). -/
  fold_le : s.fold.toNat ≤ 2147531917
  /-- OUT_VALID is the cycle after a write-back: nothing is in flight and a value has been emitted (R31, R118). -/
  pulse : s.outValid = true → s.busy = false ∧ 1 ≤ s.count.toNat

/-- STATE is where COUNT says it is in the sequence: SEED at COUNT = 0, else `sequence[COUNT − 1]` (R22, R122). -/
def OnSequence (s : State) : Prop := s.state.toNat = stateAfter s.count.toNat

/-- The start of a generation run (40_step.md R80): STATE = 42 and COUNT = 0, nothing in flight. -/
def AtRunStart (s : State) : Prop := BlockInv s ∧ s.state = seed ∧ s.count = 0#32 ∧ s.busy = false

/-- The no-fault premise of a claim about a run: ERR = 0 at its end (92_eei_decisions.md D19). -/
def NoErrorRecorded (s : State) : Bool := !s.err

end Sys2Proof.Machine
end

