-- ==== Sys2Proof/Certificates/Slice0/Obligations.lean ====
section
/-! DEFINITION. The statements for the provers, grouped as the spec's files are. Each docstring names the rule, or the
sentence, that the statement formalises; where a clause is the model's own choice it names the log entry. -/

open Sys2Proof Sys2Proof.Machine

/-! ### Ports, encoding and the handshake (30_encoding.md) -/

/-- R53: the four codes of `cmd[1:0]`, each decoded to its command and each command encoded to its code. -/
def Obligations.CommandCodesOfTheMap : Prop :=
  decode 0b00#2 = .nop ∧ decode 0b01#2 = .step ∧ decode 0b10#2 = .restart ∧ decode 0b11#2 = .rsvd ∧
  encode .nop = 0b00#2 ∧ encode .step = 0b01#2 ∧ encode .restart = 0b10#2 ∧ encode .rsvd = 0b11#2

/-- R51, "The whole 2-bit space is decoded (rule R53), so a decoder is total on every value of `cmd`": decode and encode
are inverse to each other, on every well-formed command and on every code. -/
def Obligations.DecodeAndEncodeAreInverse : Prop :=
  (∀ i : Instr, i.wellFormed = true → decode (encode i) = i) ∧ ∀ code : CmdCode, encode (decode code) = code

/-- R50, R51: a byte whose bits above the 2-bit field are 0 decodes to the command of its field. A byte with a bit set
above it is refused, which is the model's choice (log entry 11). -/
def Obligations.TableWordsDecodeAndWiderBytesAreRefused : Prop :=
  ∀ w : Nat, w < 256 → decodeTableWord 8 w = if w < 4 then some (decode (BitVec.ofNat 2 w)) else none

/-- R52: `cmd_ready`, when a command is accepted and which, what an edge without an acceptance does, and that `cmd` is
ignored there (`cmd_valid` too while `cmd_ready = 0`). -/
def Obligations.HandshakeDecidesAcceptance : Prop :=
  ∀ s : State, s.live = true →
    s.cmdReady = (!s.busy && !s.inputNow.rst) ∧
    (s.inputNow.cmdValid = true → s.cmdReady = true → step s = exec (decode s.inputNow.cmd) s.nextInputs) ∧
    (s.inputNow.cmdValid = false ∨ s.cmdReady = false →
      step s = .next (if s.inputNow.rst then s.nextInputs.resetRegisters else advance s.nextInputs) ∧
      ∀ code : CmdCode, step (s.drive { s.inputNow with cmd := code }) = step s) ∧
    (s.cmdReady = false →
      ∀ (valid : Bool) (code : CmdCode), step (s.drive { s.inputNow with cmdValid := valid, cmd := code }) = step s)

/-- A command placed at the port is decoded and run by the very next step (R52, R53; how it is placed is the model's
choice, log entry 10). -/
def Obligations.PlacedCommandRunsAtTheNextStep : Prop :=
  ∀ (s : State) (i : Instr), s.build.legal = true →
    step (s.withFetchWord 8 (encode i).toNat) = exec i s.makeReady.nextInputs

/-- R59: the expansions of `GEN k` and `RUN`, which have no code of their own. -/
def Obligations.PseudoInstructionsExpand : Prop :=
  ∀ (b : Config.Build) (k : Nat),
    (Line.gen k).expand b = List.replicate k (.present (encode .step)) ∧
    Line.run.expand b = (Line.mnemonic .restart).expand b ++ (Line.gen b.nElems).expand b ∧
    codesOf ((Line.gen k).expand b) = List.replicate k 0b01#2 ∧
    codesOf (Line.run.expand b) = 0b10#2 :: List.replicate b.nElems 0b01#2

/-- R58: the issuer that holds a code has it accepted once BUSY = 0, and the block then does what that command does. -/
def Obligations.HeldCommandIsAccepted : Prop :=
  ∀ (code : CmdCode) (r : Bench), r.block.live = true →
    ∃ u t : Bench, ticksWhileBusy (Pins.present code) 2 r = .next u ∧ u.block.busy = false ∧
      presentUntilAccepted code r = .next t ∧
      exec (decode code) (u.block.drive (Pins.present code)).nextInputs = .next t.block

/-- 30_encoding.md section 4 on directives. `@RESET` is one edge with `rst = 1` and `cmd_valid = 0`; `@IDLE k` is `k` edges
with `cmd_valid = 0`; `@EXPECT` drives nothing and looks "in the cycle after the previous line completed": at once after
`@RESET` and `@IDLE`, whatever is in flight, and after a command once BUSY = 0. When a line is complete is the model's
reading (log entry 12). -/
def Obligations.DirectivesActAndCheck : Prop :=
  ∀ r : Bench, r.block.live = true →
    (∃ t : Bench, perform .reset r = .next t ∧ t.block = r.block.nextInputs.resetRegisters ∧
      t.emitted = r.emitted ∧ t.checks = r.checks ∧ t.afterCommand = false) ∧
    (∀ k : Nat, ∃ t : Bench, perform (.idle k) r = .next t ∧
      runSteps k { r.block with pins := List.replicate k Pins.idle ++ r.block.pins.drop k } = .next t.block ∧
      t.checks = r.checks ∧ t.afterCommand = false) ∧
    ∀ (port : PortName) (value : Nat),
      (r.afterCommand = false →
        perform (.expect port value) r =
          .next { r with checks := r.checks ++ [(r.block.drive Pins.idle).ports.value port == value] }) ∧
      (r.afterCommand = true →
        ∃ u : Bench, ticksWhileBusy Pins.idle 2 r = .next u ∧ u.block.busy = false ∧
          perform (.expect port value) r =
            .next { u with checks := r.checks ++ [(u.block.drive Pins.idle).ports.value port == value] })

/-! ### The multiply–reduce datapath (40_step.md) -/

/-- 40_step.md section 2, "For every 31-bit STATE s (0 <= s <= 2^31 − 1), rules R70 to R72 give `R = (s * A) mod M`." -/
def Obligations.DatapathComputesTheResidue : Prop :=
  ∀ x : StateWord, (subtractOnce (foldProduct (multiply x))).toNat = x.toNat * 48271 % 2147483647

/-- 40_step.md section 2: the exact product, fold and difference (F − M where F >= M, else F), and the bounds that keep
each in its register. -/
def Obligations.DatapathNeverOverflows : Prop :=
  ∀ x : StateWord,
    (multiply x).toNat = x.toNat * 48271 ∧ (multiply x).toNat < 2 ^ 47 ∧
    (foldProduct (multiply x)).toNat = (multiply x).toNat % 2 ^ 31 + (multiply x).toNat / 2 ^ 31 ∧
    (multiply x).toNat / 2 ^ 31 ≤ 48270 ∧ (foldProduct (multiply x)).toNat ≤ 2147531917 ∧
    (subtractOnce (foldProduct (multiply x))).toNat =
      (if 2147483647 ≤ (foldProduct (multiply x)).toNat then (foldProduct (multiply x)).toNat - 2147483647
        else (foldProduct (multiply x)).toNat) ∧
    (subtractOnce (foldProduct (multiply x))).toNat < 2147483647

/-- 40_step.md section 4, on the period: "the sequence from any STATE in [1, M − 1] returns to that STATE after exactly
M − 1 = 2147483646 STEPs and not before". -/
def Obligations.RecurrenceHasFullPeriod : Prop :=
  ∀ x : Nat, 1 ≤ x → x < modulus →
    successor^[modulus - 1] x = x ∧ ∀ k : Nat, 0 < k → k < modulus - 1 → successor^[k] x ≠ x

/-! ### The commands at their acceptance edge (40_step.md, 41_control.md, 70_reset_and_hazards.md) -/

/-- R85: NOP, at any COUNT, changes no register but OUT_VALID, and is accepted only when BUSY = 0. -/
def Obligations.NopChangesNoArchitecturalRegister : Prop :=
  encode .nop = 0b00#2 ∧
  (∀ s : State, exec .nop s = .next { s with outValid := false }) ∧
  ∀ s : State, s.acceptedNow = some .nop → s.busy = false

/-- R114: a STEP with COUNT ≠ N_ELEMS loads the exact product and sets V1; with COUNT = N_ELEMS it instead records cause
2. Every other register is as before; OUT_VALID falls (R117), which the second clause leaves to
`OutValidIsTheWriteBackPulse`. -/
def Obligations.StepAtItsAcceptanceEdge : Prop :=
  ∀ s : State,
    (s.count.toNat ≠ s.build.nElems →
      ∃ t : State, exec .step s = .next t ∧ t.prod.toNat = s.state.toNat * 48271 ∧
        t = { s with prod := t.prod, v1 := true, outValid := false }) ∧
    (s.count.toNat = s.build.nElems →
      ∃ t : State, exec .step s = .next t ∧
        t = { s with err := true, cause := if s.err then s.cause else 2#4, outValid := t.outValid })

/-- 41_control.md R86: RESTART sets STATE and COUNT, at any COUNT, and keeps ERR, CAUSE and the pipeline; DONE becomes 0;
right after reset it changes nothing; it is accepted only when BUSY = 0. -/
def Obligations.RestartStartsANewRun : Prop :=
  encode .restart = 0b10#2 ∧
  (∀ s : State, exec .restart s = .next { s with state := 42#31, count := 0#32, outValid := false }) ∧
  (∀ s t : State, s.build.legal = true → exec .restart s = .next t → t.done = false) ∧
  exec .restart State.reset = .next State.reset ∧
  ∀ s : State, s.acceptedNow = some .restart → s.busy = false

/-- R87: the reserved code sets ERR, and CAUSE where ERR was 0, and changes nothing else but OUT_VALID; a second error
keeps the first cause; the block keeps accepting commands; the worked example's status word. -/
def Obligations.ReservedCodeIsRecorded : Prop :=
  encode .rsvd = 0b11#2 ∧
  (∀ s : State,
    exec .rsvd s = .next { s with err := true, cause := if s.err then s.cause else 1#4, outValid := false }) ∧
  (∀ s : State, s.live = true → s.acceptedNow = some .rsvd →
    ∃ t : State, step s = .next t ∧ t.busy = false ∧ t.cmdReady = !t.inputNow.rst) ∧
  (∀ (s : State) (c : CauseWord), s.err = true → recordError c s = s) ∧
  ∃ t : State, exec .rsvd State.reset = .next t ∧
    t.arch = { state := 42#31, count := 0#32, err := true, cause := 1#4 } ∧ t.status = 0x00000014#32

/-- R119: NOP, RESTART, RSVD and an overrun STEP perform their whole transaction-level rule at their acceptance edge,
change nothing else but OUT_VALID (`OutValidIsTheWriteBackPulse`), and leave the block ready at the very next edge. -/
def Obligations.SingleEdgeCommandsComplete : Prop :=
  ∀ (s : State) (i : Instr), s.live = true → s.acceptedNow = some i → i ≠ .step ∨ s.done = true →
    ∃ t : State, step s = .next t ∧ t.arch = (transact s.build i s.arch).1 ∧
      t.v1 = false ∧ t.v2 = false ∧ t.cmdReady = !t.inputNow.rst ∧
      t = { s.nextInputs with
            state := t.state, count := t.count, err := t.err, cause := t.cause, outValid := t.outValid }

/-- 40_step.md section 3: an accepted STEP with COUNT = N_ELEMS leaves STATE, COUNT and the pipeline as they were, emits
nothing, does not make BUSY = 1, and records cause 2 where no error was recorded before. OUT_VALID falls (log entry 6). -/
def Obligations.OverrunComputesNothing : Prop :=
  ∀ s : State, s.live = true → s.acceptedNow = some .step → s.count.toNat = s.build.nElems →
    ∃ t : State, step s = .next t ∧ t.state = s.state ∧ t.count = s.count ∧ t.prod = s.prod ∧ t.fold = s.fold ∧
      t.busy = false ∧ t.emitted = none ∧ t.err = true ∧ (s.err = false → t.cause = 2#4) ∧
      (s.err = true → t.cause = s.cause)

/-! ### Errors (60_exceptions.md) -/

/-- R97: `record_error(c)`, and that its write is part of the accepted command's own edge. -/
def Obligations.RecordErrorKeepsTheFirstCause : Prop :=
  (∀ (c : CauseWord) (s : State),
    (s.err = false → recordError c s = { s with err := true, cause := c }) ∧
    (s.err = true → recordError c s = s)) ∧
  ∀ s : State,
    (∃ t : State, exec .rsvd s = .next t ∧
      t.err = (recordError 1#4 s).err ∧ t.cause = (recordError 1#4 s).cause) ∧
    (s.done = true → ∃ t : State, exec .step s = .next t ∧
      t.err = (recordError 2#4 s).err ∧ t.cause = (recordError 2#4 s).cause)

/-- R99: only a reset edge clears ERR and CAUSE; at every other edge, whatever is accepted, a recorded error stays with
its cause. Looking at the ports is no step. -/
def Obligations.OnlyResetClearsErrors : Prop :=
  ∀ s : State, s.live = true →
    ∃ t : State, step s = .next t ∧
      (s.inputNow.rst = true → t.err = false ∧ t.cause = 0#4) ∧
      (s.inputNow.rst = false → s.err = true → t.err = true ∧ t.cause = s.cause)

/-- R26, R96: ERR and CAUSE at every edge: cleared by reset, recorded by an accepted reserved code (1) and by an accepted
overrun (2) where ERR = 0, else unchanged; CAUSE stays one of 0, 1, 2, and is 0 exactly when ERR = 0. -/
def Obligations.ErrAndCauseAtEveryEdge : Prop :=
  ∀ s t : State, BlockInv s → step s = .next t →
    (s.inputNow.rst = true → t.err = false ∧ t.cause = 0#4) ∧
    (s.inputNow.rst = false → s.err = false → s.acceptedNow = some .rsvd → t.err = true ∧ t.cause = 1#4) ∧
    (s.inputNow.rst = false → s.err = false → s.acceptedNow = some .step → s.done = true →
      t.err = true ∧ t.cause = 2#4) ∧
    (s.inputNow.rst = false →
      (s.err = true ∨ (s.acceptedNow ≠ some .rsvd ∧ (s.acceptedNow ≠ some .step ∨ s.done = false))) →
      t.err = s.err ∧ t.cause = s.cause) ∧
    t.cause.toNat ≤ 2 ∧ (t.cause = 0#4 ↔ t.err = false)

/-- 60_exceptions.md section 1, "No value of STATE, COUNT or any pipeline register makes a STEP fail" and "the block does
not stop": every edge of a block past its first reset answers a next state, which is past its first reset. -/
def Obligations.RunningBlockNeverStops : Prop :=
  ∀ s : State, s.live = true → ∃ t : State, step s = .next t ∧ t.live = true ∧ t.build = s.build

/-! ### Reset and boot (70_reset_and_hazards.md) -/

/-- R110: an edge with `rst = 1` gives every register its reset value, whatever the block held and whatever else is
driven; it emits nothing and accepts nothing. -/
def Obligations.ResetEdgeSetsEveryRegister : Prop :=
  ∀ s : State, s.build.legal = true → s.inputNow.rst = true →
    step s = .next
      { build := s.build, phase := .running, state := 42#31, count := 0#32, err := false, cause := 0#4,
        outValid := false, v1 := false, prod := 0#64, v2 := false, fold := 0#32, pins := s.pins.tail } ∧
    s.acceptedNow = none

/-- R32: the reset values, and what the ports then read in the first cycle with `rst = 0`, in every build. -/
def Obligations.ResetValuesAndPorts : Prop :=
  State.reset.state = 42#31 ∧ State.reset.count = 0#32 ∧ State.reset.err = false ∧ State.reset.cause = 0#4 ∧
  State.reset.outValid = false ∧ State.reset.v1 = false ∧ State.reset.v2 = false ∧ State.reset.prod = 0#64 ∧
  State.reset.fold = 0#32 ∧
  ∀ (b : Config.Build) (pins : List Pins), b.legal = true → (pins.headD Pins.idle).rst = false →
    State.observe { State.reset with build := b, pins := pins } =
      .next { cmdReady := true, outValid := false, outData := 0x0000002A#32, count := 0#32, status := 0#32 }

/-- R111: reset may be held for any number of edges, one or more; `cmd_ready = 0` while `rst = 1`, in every cycle of it
past the first reset edge; after each such edge the block is as after one of them; in the first cycle with `rst = 0` it is
ready and the ports read as R32 says. The cycle before the first reset edge of all, where R112 speaks too, is in
`BeforeTheFirstReset`. -/
def Obligations.ResetMayBeHeld : Prop :=
  ∀ (n : Nat) (s : State), s.build.legal = true → n < s.pins.length → (∀ p ∈ s.pins.take (n + 1), p.rst = true) →
    (s.phase = .running → s.cmdReady = false) ∧
    (∀ j : Nat, j < n → ∃ u : State, runSteps (j + 1) s = .next u ∧ u.cmdReady = false ∧
      u = { State.reset with build := s.build, pins := s.pins.drop (j + 1) }) ∧
    ∃ t : State, runSteps (n + 1) s = .next t ∧
      t = { State.reset with build := s.build, pins := s.pins.drop (n + 1) } ∧
      (t.inputNow.rst = false → t.cmdReady = true ∧
        t.observe = .next { cmdReady := true, outValid := false, outData := 0x0000002A#32, count := 0#32, status := 0#32 })

/-- 70_reset_and_hazards.md section 1, "it refuses any observation or command before the first reset"; a reset edge ends
that interval. That an edge with neither goes on, its registers free, is the model's choice (log entry 4), and that
`cmd_ready` is 0 there while `rst = 1`, which 70_reset_and_hazards.md also calls unspecified, is too (log entry 21). -/
def Obligations.BeforeTheFirstReset : Prop :=
  ∀ (s : State) (n : Nat), s.build.legal = true → s.phase = .beforeReset n →
    s.observe = .refused .observationBeforeFirstReset ∧
    (s.inputNow.rst = false → s.inputNow.cmdValid = true → step s = .refused .commandBeforeFirstReset) ∧
    (s.inputNow.rst = false → s.inputNow.cmdValid = false →
      ∃ t : State, step s = .next t ∧ t.phase = .beforeReset (n + 1) ∧ t.build = s.build ∧ t.pins = s.pins.tail) ∧
    (s.inputNow.rst = true → s.cmdReady = false ∧ ∃ t : State, step s = .next t ∧ t.live = true)

/-- 00_scope.md section 1, "a build with `N_ELEMS` outside that range is refused at elaboration" (that the model says so
by refusing its every step is log entry 3), and "No port or command changes `N_ELEMS` at run time". -/
def Obligations.BuildIsFixedAndInRange : Prop :=
  (∀ b : Config.Build, b.legal = true ↔ 1 ≤ b.nElems ∧ b.nElems ≤ 2 ^ 32 - 1) ∧
  (∀ s : State, s.build.legal = false → step s = .refused (.buildOutOfRange s.build.nElems)) ∧
  ∀ s t : State, step s = .next t → t.build = s.build

/-! ### The pipeline, edge by edge (70_reset_and_hazards.md) -/

/-- R115: with `rst = 0` and V1 = 1 the sum of the product's two fields goes to FOLD, V1 becomes 0 and V2 becomes 1.
The premise that the sum fits FOLD is 00_scope.md R9's. V2 is stated where stage 2 was empty, as it is in every state
that meets `BlockInv` (log entry 8); there nothing else changes but OUT_VALID. -/
def Obligations.StageTwoFolds : Prop :=
  ∀ s : State, s.live = true → s.inputNow.rst = false → s.v1 = true →
    s.prod.toNat % 2 ^ 31 + s.prod.toNat / 2 ^ 31 < 2 ^ 32 →
    ∃ t : State, step s = .next t ∧ t.fold.toNat = s.prod.toNat % 2 ^ 31 + s.prod.toNat / 2 ^ 31 ∧
      t.v1 = false ∧
      (s.v2 = false → t = { s.nextInputs with fold := t.fold, v2 := true, v1 := false, outValid := false })

/-- R116: with `rst = 0` and V2 = 1 the write-back: STATE, COUNT, OUT_VALID, V2. The premises that both values fit are
00_scope.md R9's. V2 is stated where stage 1 is empty, as it is in every state that meets `BlockInv` (log entry 8); there
nothing else changes. -/
def Obligations.StageThreeWritesBack : Prop :=
  ∀ s : State, s.live = true → s.inputNow.rst = false → s.v2 = true → s.fold.toNat < 2 ^ 32 - 1 →
    s.count.toNat + 1 < 2 ^ 32 →
    ∃ t : State, step s = .next t ∧
      t.state.toNat = (if 2147483647 ≤ s.fold.toNat then s.fold.toNat - 2147483647 else s.fold.toNat) ∧
      t.count.toNat = s.count.toNat + 1 ∧ t.outValid = true ∧ t.emitted = some (t.state.setWidth 32) ∧
      (s.v1 = false → t = { s.nextInputs with state := t.state, count := t.count, outValid := true, v2 := false })

/-- R31, R117: OUT_VALID becomes 1 at a write-back edge and 0 at every other; it drives `out_valid` and status bit 3. -/
def Obligations.OutValidIsTheWriteBackPulse : Prop :=
  ∀ s : State, s.live = true →
    ∃ t : State, step s = .next t ∧ t.outValid = (!s.inputNow.rst && s.v2) ∧
      t.ports.outValid = t.outValid ∧ t.status.getLsbD 3 = t.outValid

/-- 60_exceptions.md section 3 on an idle block: with `rst = 0`, no command presented and nothing in flight, "every
register except OUT_VALID (which becomes 0) holds its value". -/
def Obligations.IdleEdgeHoldsEveryRegister : Prop :=
  ∀ s : State, s.live = true → s.inputNow.rst = false → s.inputNow.cmdValid = false → s.busy = false →
    step s = .next { s.nextInputs with outValid := false }

/-- R66: an accepted STEP that is no overrun has written back two edges later, whatever is presented meanwhile, and the
new STATE is the exact residue; only then, and once, it emits that value. The frame names everything else. -/
def Obligations.AcceptedStepAdvancesTheRecurrence : Prop :=
  ∀ s : State, s.live = true → s.acceptedNow = some .step → s.count.toNat < s.build.nElems → s.noReset 3 = true →
    ∃ t₁ t₂ t₃ : State, step s = .next t₁ ∧ step t₁ = .next t₂ ∧ step t₂ = .next t₃ ∧
      t₃.state.toNat = s.state.toNat * 48271 % 2147483647 ∧ t₃.count.toNat = s.count.toNat + 1 ∧
      t₁.emitted = none ∧ t₂.emitted = none ∧ t₃.emitted = some (t₃.state.setWidth 32) ∧
      t₁.arch = s.arch ∧ t₂.arch = s.arch ∧
      t₃ = { s with
             state := t₃.state, count := t₃.count, outValid := true, v1 := false, prod := t₃.prod, v2 := false,
             fold := t₃.fold, pins := s.pins.drop 3 }

/-- R118: after the acceptance of a STEP that is no overrun no command is accepted at the next two edges, and one can be
at the third; the hold is lifted whatever the issuer presents. -/
def Obligations.InterlockHoldsForTwoEdges : Prop :=
  ∀ s : State, s.live = true → s.acceptedNow = some .step → s.done = false → s.noReset 3 = true →
    ∃ t₁ t₂ t₃ : State, step s = .next t₁ ∧ step t₁ = .next t₂ ∧ step t₂ = .next t₃ ∧
      t₁.acceptedNow = none ∧ t₂.acceptedNow = none ∧ t₁.cmdReady = false ∧ t₂.cmdReady = false ∧
      t₃.cmdReady = !t₃.inputNow.rst

/-- 30_encoding.md section 5, "A wait for `cmd_ready = 1` is always lifted by the block itself, at most two rising edges
after a STEP is accepted, without any action of the issuer": from any busy block, whatever its pipeline holds. -/
def Obligations.BusyIsLiftedWithinTwoEdges : Prop :=
  ∀ s : State, s.live = true → s.noReset 2 = true →
    ∃ (j : Nat) (t : State), j ≤ 2 ∧ runSteps j s = .next t ∧ t.busy = false

/-- 70_reset_and_hazards.md section 4, "the k-th STEP is accepted at edge 3k − 2 and writes back at edge 3k": an issuer
that presents STEP at every edge gets one value every three edges, as long as the run lasts. -/
def Obligations.OneValueEveryThreeEdges : Prop :=
  ∀ (k : Nat) (s : State), BlockInv s → s.busy = false → s.pins = List.replicate (3 * k) (Pins.present 0b01#2) →
    s.count.toNat + k ≤ s.build.nElems →
    ∃ t : State, runSteps (3 * k) s = .next t ∧ t.busy = false ∧
      t.count.toNat = s.count.toNat + k ∧ t.state.toNat = successor^[k] s.state.toNat

/-! ### What the registers and ports show (10_state.md) -/

/-- R21: STATE is 42 after reset and after RESTART, is written by a write-back, by RESTART and by reset and by nothing
else, and `out_data` always shows it. -/
def Obligations.WhatWritesState : Prop :=
  ∀ s t : State, s.live = true → step s = .next t →
    (s.inputNow.rst = true → t.state = 42#31) ∧ (s.acceptedNow = some .restart → t.state = 42#31) ∧
    (s.inputNow.rst = false → s.v2 = true → t.state = subtractOnce s.fold) ∧
    (s.inputNow.rst = false → s.v2 = false → s.acceptedNow ≠ some .restart → t.state = s.state) ∧
    t.ports.outData.toNat = t.state.toNat

/-- R23: COUNT is 0 after reset and after RESTART, each write-back adds 1 and emits the value COUNT names, nothing else
changes it, and it never exceeds N_ELEMS. -/
def Obligations.WhatWritesCount : Prop :=
  ∀ s t : State, BlockInv s → OnSequence s → step s = .next t →
    (s.inputNow.rst = true → t.count = 0#32) ∧ (s.acceptedNow = some .restart → t.count = 0#32) ∧
    (s.inputNow.rst = false → s.v2 = true → t.count.toNat = s.count.toNat + 1 ∧
      ∃ v : PortWord, t.emitted = some v ∧ v.toNat = sequenceAt (t.count.toNat - 1)) ∧
    (s.inputNow.rst = false → s.v2 = false → s.acceptedNow ≠ some .restart → t.count = s.count) ∧
    t.count.toNat ≤ t.build.nElems

/-- R24: DONE = (COUNT == N_ELEMS), and reset and RESTART make it 0. -/
def Obligations.DoneComparesCountWithNElems : Prop :=
  (∀ s : State, s.done = true ↔ s.count.toNat = s.build.nElems) ∧
  ∀ s : State, s.build.legal = true →
    s.resetRegisters.done = false ∧ ∃ t : State, exec .restart s = .next t ∧ t.done = false

/-- R27: the status word, field by field, and its reset value. -/
def Obligations.StatusWordLayout : Prop :=
  (∀ s : State,
    s.status.getLsbD 0 = s.busy ∧ s.status.getLsbD 1 = s.done ∧ s.status.getLsbD 2 = s.err ∧
    s.status.getLsbD 3 = s.outValid ∧ s.status.extractLsb 7 4 = s.cause ∧ s.status.extractLsb 31 8 = 0#24 ∧
    s.ports.status = s.status) ∧
  State.reset.status = 0x00000000#32

/-- R34: the hardwired bits of the ports, and the hardwired constants. -/
def Obligations.HardwiredBitsAndConstants : Prop :=
  (∀ s : State, s.ports.outData.getLsbD 31 = false ∧ s.ports.status.extractLsb 31 8 = 0#24) ∧
  modulus = 2147483647 ∧ multiplier = 48271 ∧ seed.toNat = 42

/-- 10_state.md section 7: every architectural register is on a port in every cycle after the first reset. -/
def Obligations.PortsShowTheRegisters : Prop :=
  ∀ s : State, s.live = true →
    ∃ p : Ports, s.observe = .next p ∧ p.outData.toNat = s.state.toNat ∧ p.count = s.count ∧
      p.outValid = s.outValid ∧ p.status.getLsbD 2 = s.err ∧ p.status.extractLsb 7 4 = s.cause ∧
      p.cmdReady = (!(s.v1 || s.v2) && !s.inputNow.rst)

/-- 70_reset_and_hazards.md section 3: with COUNT ≥ 1 `out_data` shows `sequence[COUNT − 1]`, with COUNT = 0 it shows 42,
at every edge of every run. -/
def Obligations.OutDataShowsTheValueCountNames : Prop :=
  ∀ (k : Nat) (s : State), BlockInv s → OnSequence s →
    ∃ (t : State) (h : History), runEdges k s s.history = .next (t, h) ∧
      (1 ≤ t.count.toNat → t.ports.outData.toNat = sequenceAt (t.count.toNat - 1)) ∧
      (t.count.toNat = 0 → t.ports.outData = 42#32)

/-! ### Invariants -/

/-- The state after a reset edge, in every build that exists and with every issuer, meets both invariants. -/
def Obligations.InvariantsHoldAfterReset : Prop :=
  ∀ (b : Config.Build) (pins : List Pins), b.legal = true →
    BlockInv { State.reset with build := b, pins := pins } ∧ OnSequence { State.reset with build := b, pins := pins }

/-- Every edge of a block that meets `BlockInv` answers a next state, and that state meets `BlockInv`: STATE stays in [1, M − 1],
COUNT at most N_ELEMS, CAUSE legal and 0 exactly when ERR = 0, one STEP in flight with its exact product or fold. -/
def Obligations.EveryEdgeKeepsBlockInv : Prop :=
  ∀ s : State, BlockInv s → ∃ t : State, step s = .next t ∧ BlockInv t

/-- Every edge keeps STATE where COUNT says it is in the sequence. -/
def Obligations.EveryEdgeKeepsOnSequence : Prop :=
  ∀ s : State, BlockInv s → OnSequence s → ∃ t : State, step s = .next t ∧ OnSequence t

/-- R69: over every run of edges, every value emitted and every value STATE takes lies in [1, 2147483646]. -/
def Obligations.EmittedValuesAreNonzeroResidues : Prop :=
  ∀ (k : Nat) (s : State), BlockInv s →
    ∃ (t : State) (h : History), runEdges k s s.history = .next (t, h) ∧
      1 ≤ t.state.toNat ∧ t.state.toNat ≤ 2147483646 ∧
      ∀ v ∈ h.emitted, 1 ≤ v.toNat ∧ v.toNat ≤ 2147483646

/-! ### Runs: the transaction level and the sequence -/

/-- 70_reset_and_hazards.md section 3, "The cycle level refines the transaction level": after any edges, whatever the
issuer drives and resets among them, at BUSY = 0 the architectural registers and the values emitted are those of the
commands accepted since the last reset, each taken as one atomic transition, in order. -/
def Obligations.CycleLevelRefinesTransactionLevel : Prop :=
  ∀ (k : Nat) (s : State), BlockInv s → s.busy = false →
    ∃ (t : State) (h : History), runEdges k s s.history = .next (t, h) ∧
      (t.busy = false → transactAll s.build h.accepted h.base = (t.arch, h.emitted))

/-- 40_step.md section 4, on determinism: the registers and the values emitted "depend only on the sequence of accepted
command codes"; how long the issuer waits, and what it presents unaccepted, changes nothing. -/
def Obligations.ValuesDependOnlyOnAcceptedCommands : Prop :=
  ∀ (k₁ k₂ : Nat) (s₁ s₂ t₁ t₂ : State) (h₁ h₂ : History),
    BlockInv s₁ → BlockInv s₂ → s₁.busy = false → s₂.busy = false → s₁.build = s₂.build →
    runEdges k₁ s₁ s₁.history = .next (t₁, h₁) → runEdges k₂ s₂ s₂.history = .next (t₂, h₂) →
    t₁.busy = false → t₂.busy = false → h₁.base = h₂.base → h₁.accepted = h₂.accepted →
    t₁.arch = t₂.arch ∧ h₁.emitted = h₂.emitted

/-- 40_step.md sections 1 and 5: from the start of a run, as long as neither a reset nor a RESTART cuts it short, the
values emitted are the first COUNT values of the sequence, in order; when the run is complete they are all N_ELEMS of
them and STATE is the last. -/
def Obligations.RunEmitsTheSequence : Prop :=
  ∀ (k : Nat) (s : State), AtRunStart s → s.noReset k = true →
    ∃ (t : State) (h : History), runEdges k s s.history = .next (t, h) ∧
      (.restart ∉ h.accepted →
        h.emitted.map BitVec.toNat = (List.range t.count.toNat).map sequenceAt ∧
        (t.runComplete = true →
          h.emitted.map BitVec.toNat = (List.range t.build.nElems).map sequenceAt ∧
          t.state.toNat = sequenceAt (t.build.nElems - 1)))

/-- 92_eei_decisions.md D19, "a claim should take "ERR = 0 at the end" as its no-fault premise": a run of edges that ends
with ERR = 0 and BUSY = 0 has accepted no reserved code since the last reset, and each STEP it accepted has emitted one
value. -/
def Obligations.ErrorFreeRunEmitsOneValuePerStep : Prop :=
  ∀ (k : Nat) (s : State), BlockInv s → s.busy = false →
    ∃ (t : State) (h : History), runEdges k s s.history = .next (t, h) ∧
      (t.busy = false → NoErrorRecorded t = true →
        .rsvd ∉ h.accepted ∧ h.emitted.length = h.accepted.count .step)

/-- 40_step.md section 1, on order and index: at the transaction level the k-th STEP of a run emits `sequence[k − 1]` and
leaves COUNT = k, up to N_ELEMS; a STEP more is an overrun, which emits nothing and records cause 2. -/
def Obligations.TransactionRunProducesTheSequence : Prop :=
  ∀ (b : Config.Build) (k : Nat), b.legal = true → k ≤ b.nElems →
    transactAll b (List.replicate k .step) Arch.reset =
      ({ state := BitVec.ofNat 31 (stateAfter k), count := BitVec.ofNat 32 k, err := false, cause := 0#4 },
        (List.range k).map fun i => BitVec.ofNat 32 (sequenceAt i)) ∧
    (k = b.nElems →
      transactAll b (List.replicate (k + 1) .step) Arch.reset =
        ({ state := BitVec.ofNat 31 (stateAfter k), count := BitVec.ofNat 32 k, err := true, cause := 2#4 },
          (List.range k).map fun i => BitVec.ofNat 32 (sequenceAt i)))
end

