-- ==== Sys2Proof/Laws/State.lean ====
section
/-! SUPPORT. What each named update of the state does to each field, one lemma per field per update, true by rfl and
tagged @[simp], so that no later proof unfolds a record update. -/

namespace Sys2Proof.Machine

variable (s : State)

/-! ### loadProduct -/

@[simp] theorem State.loadProduct_build : s.loadProduct.build = s.build := rfl
@[simp] theorem State.loadProduct_phase : s.loadProduct.phase = s.phase := rfl
@[simp] theorem State.loadProduct_state : s.loadProduct.state = s.state := rfl
@[simp] theorem State.loadProduct_count : s.loadProduct.count = s.count := rfl
@[simp] theorem State.loadProduct_err : s.loadProduct.err = s.err := rfl
@[simp] theorem State.loadProduct_cause : s.loadProduct.cause = s.cause := rfl
@[simp] theorem State.loadProduct_outValid : s.loadProduct.outValid = s.outValid := rfl
@[simp] theorem State.loadProduct_v1 : s.loadProduct.v1 = true := rfl
@[simp] theorem State.loadProduct_prod : s.loadProduct.prod = multiply s.state := rfl
@[simp] theorem State.loadProduct_v2 : s.loadProduct.v2 = s.v2 := rfl
@[simp] theorem State.loadProduct_fold : s.loadProduct.fold = s.fold := rfl
@[simp] theorem State.loadProduct_pins : s.loadProduct.pins = s.pins := rfl

/-! ### loadFold -/

@[simp] theorem State.loadFold_build : s.loadFold.build = s.build := rfl
@[simp] theorem State.loadFold_phase : s.loadFold.phase = s.phase := rfl
@[simp] theorem State.loadFold_state : s.loadFold.state = s.state := rfl
@[simp] theorem State.loadFold_count : s.loadFold.count = s.count := rfl
@[simp] theorem State.loadFold_err : s.loadFold.err = s.err := rfl
@[simp] theorem State.loadFold_cause : s.loadFold.cause = s.cause := rfl
@[simp] theorem State.loadFold_outValid : s.loadFold.outValid = s.outValid := rfl
@[simp] theorem State.loadFold_v1 : s.loadFold.v1 = false := rfl
@[simp] theorem State.loadFold_prod : s.loadFold.prod = s.prod := rfl
@[simp] theorem State.loadFold_v2 : s.loadFold.v2 = true := rfl
@[simp] theorem State.loadFold_fold : s.loadFold.fold = foldProduct s.prod := rfl
@[simp] theorem State.loadFold_pins : s.loadFold.pins = s.pins := rfl

/-! ### writeBack -/

@[simp] theorem State.writeBack_build : s.writeBack.build = s.build := rfl
@[simp] theorem State.writeBack_phase : s.writeBack.phase = s.phase := rfl
@[simp] theorem State.writeBack_state : s.writeBack.state = subtractOnce s.fold := rfl
@[simp] theorem State.writeBack_count : s.writeBack.count = assign 32 (s.count.toNat + 1) := rfl
@[simp] theorem State.writeBack_err : s.writeBack.err = s.err := rfl
@[simp] theorem State.writeBack_cause : s.writeBack.cause = s.cause := rfl
@[simp] theorem State.writeBack_outValid : s.writeBack.outValid = true := rfl
@[simp] theorem State.writeBack_v1 : s.writeBack.v1 = s.v1 := rfl
@[simp] theorem State.writeBack_prod : s.writeBack.prod = s.prod := rfl
@[simp] theorem State.writeBack_v2 : s.writeBack.v2 = false := rfl
@[simp] theorem State.writeBack_fold : s.writeBack.fold = s.fold := rfl
@[simp] theorem State.writeBack_pins : s.writeBack.pins = s.pins := rfl

/-! ### dropOutValid -/

@[simp] theorem State.dropOutValid_build : s.dropOutValid.build = s.build := rfl
@[simp] theorem State.dropOutValid_phase : s.dropOutValid.phase = s.phase := rfl
@[simp] theorem State.dropOutValid_state : s.dropOutValid.state = s.state := rfl
@[simp] theorem State.dropOutValid_count : s.dropOutValid.count = s.count := rfl
@[simp] theorem State.dropOutValid_err : s.dropOutValid.err = s.err := rfl
@[simp] theorem State.dropOutValid_cause : s.dropOutValid.cause = s.cause := rfl
@[simp] theorem State.dropOutValid_outValid : s.dropOutValid.outValid = false := rfl
@[simp] theorem State.dropOutValid_v1 : s.dropOutValid.v1 = s.v1 := rfl
@[simp] theorem State.dropOutValid_prod : s.dropOutValid.prod = s.prod := rfl
@[simp] theorem State.dropOutValid_v2 : s.dropOutValid.v2 = s.v2 := rfl
@[simp] theorem State.dropOutValid_fold : s.dropOutValid.fold = s.fold := rfl
@[simp] theorem State.dropOutValid_pins : s.dropOutValid.pins = s.pins := rfl

/-! ### latchError -/

@[simp] theorem State.latchError_build (c : CauseWord) : (s.latchError c).build = s.build := rfl
@[simp] theorem State.latchError_phase (c : CauseWord) : (s.latchError c).phase = s.phase := rfl
@[simp] theorem State.latchError_state (c : CauseWord) : (s.latchError c).state = s.state := rfl
@[simp] theorem State.latchError_count (c : CauseWord) : (s.latchError c).count = s.count := rfl
@[simp] theorem State.latchError_err (c : CauseWord) : (s.latchError c).err = true := rfl
@[simp] theorem State.latchError_cause (c : CauseWord) : (s.latchError c).cause = c := rfl
@[simp] theorem State.latchError_outValid (c : CauseWord) : (s.latchError c).outValid = s.outValid := rfl
@[simp] theorem State.latchError_v1 (c : CauseWord) : (s.latchError c).v1 = s.v1 := rfl
@[simp] theorem State.latchError_prod (c : CauseWord) : (s.latchError c).prod = s.prod := rfl
@[simp] theorem State.latchError_v2 (c : CauseWord) : (s.latchError c).v2 = s.v2 := rfl
@[simp] theorem State.latchError_fold (c : CauseWord) : (s.latchError c).fold = s.fold := rfl
@[simp] theorem State.latchError_pins (c : CauseWord) : (s.latchError c).pins = s.pins := rfl

/-! ### startRun -/

@[simp] theorem State.startRun_build : s.startRun.build = s.build := rfl
@[simp] theorem State.startRun_phase : s.startRun.phase = s.phase := rfl
@[simp] theorem State.startRun_state : s.startRun.state = seed := rfl
@[simp] theorem State.startRun_count : s.startRun.count = 0#32 := rfl
@[simp] theorem State.startRun_err : s.startRun.err = s.err := rfl
@[simp] theorem State.startRun_cause : s.startRun.cause = s.cause := rfl
@[simp] theorem State.startRun_outValid : s.startRun.outValid = s.outValid := rfl
@[simp] theorem State.startRun_v1 : s.startRun.v1 = s.v1 := rfl
@[simp] theorem State.startRun_prod : s.startRun.prod = s.prod := rfl
@[simp] theorem State.startRun_v2 : s.startRun.v2 = s.v2 := rfl
@[simp] theorem State.startRun_fold : s.startRun.fold = s.fold := rfl
@[simp] theorem State.startRun_pins : s.startRun.pins = s.pins := rfl

/-! ### resetRegisters -/

@[simp] theorem State.resetRegisters_build : s.resetRegisters.build = s.build := rfl
@[simp] theorem State.resetRegisters_phase : s.resetRegisters.phase = .running := rfl
@[simp] theorem State.resetRegisters_state : s.resetRegisters.state = seed := rfl
@[simp] theorem State.resetRegisters_count : s.resetRegisters.count = 0#32 := rfl
@[simp] theorem State.resetRegisters_err : s.resetRegisters.err = false := rfl
@[simp] theorem State.resetRegisters_cause : s.resetRegisters.cause = causeNone := rfl
@[simp] theorem State.resetRegisters_outValid : s.resetRegisters.outValid = false := rfl
@[simp] theorem State.resetRegisters_v1 : s.resetRegisters.v1 = false := rfl
@[simp] theorem State.resetRegisters_prod : s.resetRegisters.prod = 0#64 := rfl
@[simp] theorem State.resetRegisters_v2 : s.resetRegisters.v2 = false := rfl
@[simp] theorem State.resetRegisters_fold : s.resetRegisters.fold = 0#32 := rfl
@[simp] theorem State.resetRegisters_pins : s.resetRegisters.pins = s.pins := rfl

/-! ### unspecify -/

@[simp] theorem State.unspecify_build (n : Nat) : (s.unspecify n).build = s.build := rfl
@[simp] theorem State.unspecify_phase (n : Nat) : (s.unspecify n).phase = .beforeReset n := rfl
@[simp] theorem State.unspecify_state (n : Nat) : (s.unspecify n).state = Config.unspecified 31 n 0 := rfl
@[simp] theorem State.unspecify_count (n : Nat) : (s.unspecify n).count = Config.unspecified 32 n 1 := rfl
@[simp] theorem State.unspecify_err (n : Nat) : (s.unspecify n).err = (Config.unspecified 1 n 2).getLsbD 0 := rfl
@[simp] theorem State.unspecify_cause (n : Nat) : (s.unspecify n).cause = Config.unspecified 4 n 3 := rfl
@[simp] theorem State.unspecify_outValid (n : Nat) :
    (s.unspecify n).outValid = (Config.unspecified 1 n 4).getLsbD 0 := rfl
@[simp] theorem State.unspecify_v1 (n : Nat) : (s.unspecify n).v1 = (Config.unspecified 1 n 5).getLsbD 0 := rfl
@[simp] theorem State.unspecify_prod (n : Nat) : (s.unspecify n).prod = Config.unspecified 64 n 6 := rfl
@[simp] theorem State.unspecify_v2 (n : Nat) : (s.unspecify n).v2 = (Config.unspecified 1 n 7).getLsbD 0 := rfl
@[simp] theorem State.unspecify_fold (n : Nat) : (s.unspecify n).fold = Config.unspecified 32 n 8 := rfl
@[simp] theorem State.unspecify_pins (n : Nat) : (s.unspecify n).pins = s.pins := rfl

/-! ### nextInputs -/

@[simp] theorem State.nextInputs_build : s.nextInputs.build = s.build := rfl
@[simp] theorem State.nextInputs_phase : s.nextInputs.phase = s.phase := rfl
@[simp] theorem State.nextInputs_state : s.nextInputs.state = s.state := rfl
@[simp] theorem State.nextInputs_count : s.nextInputs.count = s.count := rfl
@[simp] theorem State.nextInputs_err : s.nextInputs.err = s.err := rfl
@[simp] theorem State.nextInputs_cause : s.nextInputs.cause = s.cause := rfl
@[simp] theorem State.nextInputs_outValid : s.nextInputs.outValid = s.outValid := rfl
@[simp] theorem State.nextInputs_v1 : s.nextInputs.v1 = s.v1 := rfl
@[simp] theorem State.nextInputs_prod : s.nextInputs.prod = s.prod := rfl
@[simp] theorem State.nextInputs_v2 : s.nextInputs.v2 = s.v2 := rfl
@[simp] theorem State.nextInputs_fold : s.nextInputs.fold = s.fold := rfl
@[simp] theorem State.nextInputs_pins : s.nextInputs.pins = s.pins.tail := rfl

/-! ### drive -/

@[simp] theorem State.drive_build (p : Pins) : (s.drive p).build = s.build := rfl
@[simp] theorem State.drive_phase (p : Pins) : (s.drive p).phase = s.phase := rfl
@[simp] theorem State.drive_state (p : Pins) : (s.drive p).state = s.state := rfl
@[simp] theorem State.drive_count (p : Pins) : (s.drive p).count = s.count := rfl
@[simp] theorem State.drive_err (p : Pins) : (s.drive p).err = s.err := rfl
@[simp] theorem State.drive_cause (p : Pins) : (s.drive p).cause = s.cause := rfl
@[simp] theorem State.drive_outValid (p : Pins) : (s.drive p).outValid = s.outValid := rfl
@[simp] theorem State.drive_v1 (p : Pins) : (s.drive p).v1 = s.v1 := rfl
@[simp] theorem State.drive_prod (p : Pins) : (s.drive p).prod = s.prod := rfl
@[simp] theorem State.drive_v2 (p : Pins) : (s.drive p).v2 = s.v2 := rfl
@[simp] theorem State.drive_fold (p : Pins) : (s.drive p).fold = s.fold := rfl
@[simp] theorem State.drive_pins (p : Pins) : (s.drive p).pins = p :: s.pins.tail := rfl

/-! ### makeReady -/

@[simp] theorem State.makeReady_build : s.makeReady.build = s.build := rfl
@[simp] theorem State.makeReady_phase : s.makeReady.phase = .running := rfl
@[simp] theorem State.makeReady_state : s.makeReady.state = s.state := rfl
@[simp] theorem State.makeReady_count : s.makeReady.count = s.count := rfl
@[simp] theorem State.makeReady_err : s.makeReady.err = s.err := rfl
@[simp] theorem State.makeReady_cause : s.makeReady.cause = s.cause := rfl
@[simp] theorem State.makeReady_outValid : s.makeReady.outValid = s.outValid := rfl
@[simp] theorem State.makeReady_v1 : s.makeReady.v1 = false := rfl
@[simp] theorem State.makeReady_prod : s.makeReady.prod = s.prod := rfl
@[simp] theorem State.makeReady_v2 : s.makeReady.v2 = false := rfl
@[simp] theorem State.makeReady_fold : s.makeReady.fold = s.fold := rfl
@[simp] theorem State.makeReady_pins : s.makeReady.pins = s.pins := rfl

/-! ### The flags under the updates that leave their registers alone -/

@[simp] theorem State.dropOutValid_done : s.dropOutValid.done = s.done := rfl
@[simp] theorem State.dropOutValid_busy : s.dropOutValid.busy = s.busy := rfl
@[simp] theorem State.loadProduct_done : s.loadProduct.done = s.done := rfl
@[simp] theorem State.loadFold_done : s.loadFold.done = s.done := rfl
@[simp] theorem State.latchError_done (c : CauseWord) : (s.latchError c).done = s.done := rfl
@[simp] theorem State.latchError_busy (c : CauseWord) : (s.latchError c).busy = s.busy := rfl
@[simp] theorem State.startRun_busy : s.startRun.busy = s.busy := rfl
@[simp] theorem State.resetRegisters_busy : s.resetRegisters.busy = false := rfl
@[simp] theorem State.nextInputs_done : s.nextInputs.done = s.done := rfl
@[simp] theorem State.nextInputs_busy : s.nextInputs.busy = s.busy := rfl
@[simp] theorem State.drive_done (p : Pins) : (s.drive p).done = s.done := rfl
@[simp] theorem State.drive_busy (p : Pins) : (s.drive p).busy = s.busy := rfl
@[simp] theorem State.drive_inputNow (p : Pins) : (s.drive p).inputNow = p := rfl
@[simp] theorem State.makeReady_busy : s.makeReady.busy = false := rfl
@[simp] theorem State.makeReady_inputNow : s.makeReady.inputNow = s.inputNow := rfl
@[simp] theorem State.loadProduct_busy : s.loadProduct.busy = true := rfl

/-- BUSY = 0 says that both stages are empty (10_state.md R25). -/
theorem State.busy_eq_false : s.busy = false ↔ s.v1 = false ∧ s.v2 = false := by
  simp [State.busy]

/-- DONE compares COUNT with N_ELEMS as numbers (10_state.md R24). -/
theorem State.done_eq_true : s.done = true ↔ s.count.toNat = s.build.nElems := by
  simp [State.done]

end Sys2Proof.Machine
end

