-- ==== Sys2Proof/Laws/Ops.lean ====
section
/-! SUPPORT. One lemma for each shared operation that says once what it can do. -/

namespace Sys2Proof.Machine

/-! ### Assignment and the datapath -/

/-- An assignment of a value that fits stores it (00_scope.md R9). -/
theorem assign_toNat {w v : Nat} (h : v < 2 ^ w) : (assign w v).toNat = v := by
  simp [assign, h, Nat.mod_eq_of_lt h]

/-- An assignment of a value that fits is its bits. -/
theorem assign_of_lt {w v : Nat} (h : v < 2 ^ w) : assign w v = BitVec.ofNat w v := by
  simp [assign, h]

/-- The product is exact for every STATE (40_step.md R70). -/
theorem multiply_toNat (x : StateWord) : (multiply x).toNat = x.toNat * multiplier := by
  have hx := x.isLt
  refine assign_toNat ?_
  unfold multiplier
  omega

/-- The two fields the fold adds, as numbers (40_step.md R71). -/
theorem fold_fields (p : ProdWord) :
    (p.extractLsb 30 0).toNat = p.toNat % 2 ^ 31 ∧ (p.extractLsb 63 31).toNat = p.toNat / 2 ^ 31 := by
  have hp := p.isLt
  constructor
  · simp [BitVec.extractLsb_toNat]
  · simp only [BitVec.extractLsb_toNat, Nat.shiftRight_eq_div_pow]
    omega

/-- The fold where the sum fits FOLD (R71). -/
theorem foldProduct_toNat {p : ProdWord} (h : p.toNat % 2 ^ 31 + p.toNat / 2 ^ 31 < 2 ^ 32) :
    (foldProduct p).toNat = p.toNat % 2 ^ 31 + p.toNat / 2 ^ 31 := by
  obtain ⟨lo, hi⟩ := fold_fields p
  unfold foldProduct
  rw [lo, hi]
  exact assign_toNat h

/-- A product below 2^47 folds to a value that fits (R70, R71). -/
theorem fold_fits {p : Nat} (h : p < 2 ^ 47) : p % 2 ^ 31 + p / 2 ^ 31 < 2 ^ 32 := by
  omega

/-- The conditional subtraction, for every FOLD but the largest (R72). -/
theorem subtractOnce_toNat {f : FoldWord} (h : f.toNat < 2 ^ 32 - 1) :
    (subtractOnce f).toNat = if modulus ≤ f.toNat then f.toNat - modulus else f.toNat := by
  unfold subtractOnce
  refine assign_toNat ?_
  unfold modulus
  split <;> omega

/-! ### Errors -/

/-- What recording an error can do (60_exceptions.md R97). -/
theorem recordError_cases (c : CauseWord) (s : State) :
    (s.err = true ∧ recordError c s = s) ∨ (s.err = false ∧ recordError c s = s.latchError c) := by
  cases h : s.err <;> simp [recordError, h]

/-- Recording an error leaves every field but ERR and CAUSE as it was (R98). -/
theorem recordError_frame (c : CauseWord) (s : State) :
    recordError c s = { s with err := true, cause := if s.err then s.cause else c } := by
  obtain ⟨h, e⟩ | ⟨h, e⟩ := recordError_cases c s
  · rw [e]
    cases s
    simp_all
  · rw [e]
    simp [State.latchError, h]

/-! Recording an error, field by field. -/

@[simp] theorem recordError_build (c : CauseWord) (s : State) : (recordError c s).build = s.build := by
  rw [recordError_frame]
@[simp] theorem recordError_phase (c : CauseWord) (s : State) : (recordError c s).phase = s.phase := by
  rw [recordError_frame]
@[simp] theorem recordError_state (c : CauseWord) (s : State) : (recordError c s).state = s.state := by
  rw [recordError_frame]
@[simp] theorem recordError_count (c : CauseWord) (s : State) : (recordError c s).count = s.count := by
  rw [recordError_frame]
@[simp] theorem recordError_outValid (c : CauseWord) (s : State) : (recordError c s).outValid = s.outValid := by
  rw [recordError_frame]
@[simp] theorem recordError_v1 (c : CauseWord) (s : State) : (recordError c s).v1 = s.v1 := by
  rw [recordError_frame]
@[simp] theorem recordError_prod (c : CauseWord) (s : State) : (recordError c s).prod = s.prod := by
  rw [recordError_frame]
@[simp] theorem recordError_v2 (c : CauseWord) (s : State) : (recordError c s).v2 = s.v2 := by
  rw [recordError_frame]
@[simp] theorem recordError_fold (c : CauseWord) (s : State) : (recordError c s).fold = s.fold := by
  rw [recordError_frame]
@[simp] theorem recordError_pins (c : CauseWord) (s : State) : (recordError c s).pins = s.pins := by
  rw [recordError_frame]
@[simp] theorem recordError_err (c : CauseWord) (s : State) : (recordError c s).err = true := by
  rw [recordError_frame]
@[simp] theorem recordError_cause (c : CauseWord) (s : State) :
    (recordError c s).cause = if s.err then s.cause else c := by
  rw [recordError_frame]

/-! ### The pipeline's own writes -/

/-- What stage 3 can do (70_reset_and_hazards.md R116, R117). -/
theorem stageThree_cases (s : State) :
    (s.v2 = true ∧ stageThree s = s.writeBack) ∨ (s.v2 = false ∧ stageThree s = s.dropOutValid) := by
  cases h : s.v2 <;> simp [stageThree, h]

/-- What stage 2 can do (R115). -/
theorem stageTwo_cases (s : State) :
    (s.v1 = true ∧ stageTwo s = s.loadFold) ∨ (s.v1 = false ∧ stageTwo s = s) := by
  cases h : s.v1 <;> simp [stageTwo, h]

/-- What an edge without an accepted command does to the registers, by what the stages held (R115 to R117). -/
theorem advance_cases (s : State) :
    (s.v1 = false ∧ s.v2 = false ∧ advance s = s.dropOutValid) ∨
    (s.v1 = true ∧ s.v2 = false ∧ advance s = s.dropOutValid.loadFold) ∨
    (s.v1 = false ∧ s.v2 = true ∧ advance s = s.writeBack) ∨
    (s.v1 = true ∧ s.v2 = true ∧ advance s = s.writeBack.loadFold) := by
  cases h1 : s.v1 <;> cases h2 : s.v2 <;> simp [advance, stageTwo, stageThree, h1, h2]

end Sys2Proof.Machine
end

