-- ==== Sys2Proof/Laws/Edge.lean ====
section
/-! SUPPORT. What an accepted command, an edge and a step can do: the inversion lemmas a proof cites in place of
unfolding `exec`, `edge` or `step`. -/

namespace Sys2Proof.Machine

/-- What an accepted STEP can do (70_reset_and_hazards.md R114, 40_step.md R75). -/
theorem execStep_cases (s : State) :
    (s.done = true ∧ execStep s = .next (recordError causeOverrun s.dropOutValid)) ∨
    (s.done = false ∧ execStep s = .next s.dropOutValid.loadProduct) := by
  cases h : s.done <;> simp [execStep, h]

/-- What an accepted command can do, all four together. -/
theorem exec_cases {i : Instr} {s t : State} (h : exec i s = .next t) :
    (i = .nop ∧ t = s.dropOutValid) ∨
    (i = .step ∧ s.done = true ∧ t = recordError causeOverrun s.dropOutValid) ∨
    (i = .step ∧ s.done = false ∧ t = s.dropOutValid.loadProduct) ∨
    (i = .restart ∧ t = s.dropOutValid.startRun) ∨
    (i = .rsvd ∧ t = recordError causeRsvdCmd s.dropOutValid) := by
  cases i with
  | nop =>
    obtain rfl : s.dropOutValid = t := Host.Outcome.next.inj h
    exact .inl ⟨rfl, rfl⟩
  | step =>
    obtain ⟨d, e⟩ | ⟨d, e⟩ := execStep_cases s
    · exact .inr (.inl ⟨rfl, d, (Host.Outcome.next.inj (e.symm.trans h)).symm⟩)
    · exact .inr (.inr (.inl ⟨rfl, d, (Host.Outcome.next.inj (e.symm.trans h)).symm⟩))
  | restart =>
    obtain rfl : s.dropOutValid.startRun = t := Host.Outcome.next.inj h
    exact .inr (.inr (.inr (.inl ⟨rfl, rfl⟩)))
  | rsvd =>
    obtain rfl : recordError causeRsvdCmd s.dropOutValid = t := Host.Outcome.next.inj h
    exact .inr (.inr (.inr (.inr ⟨rfl, rfl⟩)))

/-- What an edge that answers a next state has done (70_reset_and_hazards.md R110, R112, R120). -/
theorem edge_cases {p : Pins} {s t : State} (h : edge p s = .next t) :
    s.build.legal = true ∧
    ((p.rst = true ∧ t = s.resetRegisters) ∨
    (p.rst = false ∧ p.cmdValid = false ∧ ∃ n, s.phase = .beforeReset n ∧ t = s.unspecify (n + 1)) ∨
    (p.rst = false ∧ s.phase = .running ∧ p.cmdValid = true ∧ s.busy = false ∧ exec (decode p.cmd) s = .next t) ∨
    (p.rst = false ∧ s.phase = .running ∧ (p.cmdValid = false ∨ s.busy = true) ∧ t = advance s)) := by
  unfold edge at h
  split at h
  · rename_i hb
    refine ⟨hb, ?_⟩
    split at h
    · rename_i hr
      injection h with h
      exact .inl ⟨hr, h.symm⟩
    · rename_i hr
      have hr : p.rst = false := by simpa using hr
      split at h
      · rename_i n hp
        split at h
        · cases h
        · rename_i hv
          injection h with h
          exact .inr (.inl ⟨hr, by simpa using hv, n, hp, h.symm⟩)
      · rename_i hp
        split at h
        · rename_i ha
          have ha : p.cmdValid = true ∧ s.busy = false := by simpa using ha
          exact .inr (.inr (.inl ⟨hr, hp, ha.1, ha.2, h⟩))
        · rename_i ha
          injection h with h
          refine .inr (.inr (.inr ⟨hr, hp, ?_, h.symm⟩))
          cases hv : p.cmdValid with
          | false => exact .inl rfl
          | true => exact .inr (by simpa [hv] using ha)
  · cases h

/-- What a step that answers a next state has done: `edge_cases` at what the issuer drives. -/
theorem step_cases {s t : State} (h : step s = .next t) :
    s.build.legal = true ∧
    ((s.inputNow.rst = true ∧ t = s.nextInputs.resetRegisters) ∨
    (s.inputNow.rst = false ∧ s.inputNow.cmdValid = false ∧
      ∃ n, s.phase = .beforeReset n ∧ t = s.nextInputs.unspecify (n + 1)) ∨
    (s.inputNow.rst = false ∧ s.phase = .running ∧ s.inputNow.cmdValid = true ∧ s.busy = false ∧
      exec (decode s.inputNow.cmd) s.nextInputs = .next t) ∨
    (s.inputNow.rst = false ∧ s.phase = .running ∧ (s.inputNow.cmdValid = false ∨ s.busy = true) ∧
      t = advance s.nextInputs)) := by
  simpa using edge_cases h

/-- No step of a legal build past its first reset stops: the block "does not stop" (60_exceptions.md R98). The lemma
names the four ways it goes on. -/
theorem step_of_running {s : State} (hb : s.build.legal = true) (hp : s.phase = .running) :
    step s =
      if s.inputNow.rst then .next s.nextInputs.resetRegisters
      else if s.inputNow.cmdValid && !s.busy then exec (decode s.inputNow.cmd) s.nextInputs
      else .next (advance s.nextInputs) := by
  simp [step, edge, hb, hp]

end Sys2Proof.Machine
end

