-- ==== Sys2Proof/Laws/Trace.lean ====
section
/-! SUPPORT. Runs of edges, one edge at a time. -/

namespace Sys2Proof.Machine

/-- A run goes on from the state its first edge answers. -/
theorem runSteps_succ {s t : State} (k : Nat) (h : step s = .next t) : runSteps (k + 1) s = runSteps k t := by
  simp [runSteps, h]

/-- One step of the host's run, for any machine. -/
theorem core_run_succ (M : Host.Core) (k : Nat) (s : M.State) :
    M.run (k + 1) s = match M.step s with
      | .next t => M.run k t
      | .fault r => .fault r
      | .refused r => .refused r := by
  cases h : M.step s <;> simp only [Host.Core.run, h]

/-- `runSteps` is the host's run of this machine. -/
theorem runSteps_eq_core_run (k : Nat) (s : State) : runSteps k s = Host.Core.run Sys2Proof.core k s := by
  induction k generalizing s with
  | zero => rfl
  | succ k ih =>
    refine Eq.trans ?_ (core_run_succ Sys2Proof.core k s).symm
    rw [runSteps, show Sys2Proof.core.step s = step s from rfl]
    cases step s with
    | next t => exact ih t
    | fault r => rfl
    | refused r => rfl

/-- A run with its history goes on from the state and the history after its first edge. -/
theorem runEdges_succ {s t : State} (k : Nat) (h : History) (e : step s = .next t) :
    runEdges (k + 1) s h = runEdges k t (h.extend s t) := by
  simp [runEdges, e]

/-- A run with its history that answers has gone through a next state at its first edge. -/
theorem runEdges_succ_next {k : Nat} {s : State} {h : History} {r : State × History}
    (e : runEdges (k + 1) s h = .next r) : ∃ t, step s = .next t ∧ runEdges k t (h.extend s t) = .next r := by
  rw [runEdges] at e
  cases hs : step s with
  | next t => exact ⟨t, rfl, by simpa [hs] using e⟩
  | fault f => cases f
  | refused f => simp [hs] at e

/-- The command an edge accepts, and what its acceptance says of the state (30_encoding.md R52). -/
theorem acceptedNow_eq_some {s : State} {i : Instr} :
    s.acceptedNow = some i ↔
      s.inputNow.cmdValid = true ∧ s.busy = false ∧ s.inputNow.rst = false ∧ decode s.inputNow.cmd = i := by
  simp [State.acceptedNow, State.accepts, State.cmdReady, and_assoc]

end Sys2Proof.Machine
end

