-- ==== Sys2Proof/Laws/Issuer.lean ====
section
/-! SUPPORT. What the issuer's operations can do, one lemma for each. -/

namespace Sys2Proof.Machine

@[simp] theorem andThen_next {α β : Type} (a : α) (f : α → Host.Outcome β Fault Refusal) :
    andThen (.next a) f = f a := rfl

/-- A sequence that answers has gone through an answer of its first part. -/
theorem andThen_eq_next {α β : Type} {o : Host.Outcome α Fault Refusal} {f : α → Host.Outcome β Fault Refusal} {b : β} :
    andThen o f = .next b ↔ ∃ a, o = .next a ∧ f a = .next b := by
  cases o <;> simp [andThen]

/-- A tick is one step of the block at which the issuer drives the pins given. -/
theorem tick_eq_next {p : Pins} {r u : Bench} :
    tick p r = .next u ↔
      ∃ t, step (r.block.drive p) = .next t ∧ u = { r with block := t, emitted := r.emitted ++ t.emitted.toList } := by
  rw [tick, andThen_eq_next]
  constructor
  · rintro ⟨t, h, e⟩
    exact ⟨t, h, (Host.Outcome.next.inj e).symm⟩
  · rintro ⟨t, h, rfl⟩
    exact ⟨t, h, rfl⟩

/-- Waiting for BUSY = 0 is over at once where BUSY = 0. -/
theorem ticksWhileBusy_of_idle {p : Pins} {r : Bench} (k : Nat) (h : r.block.busy = false) :
    ticksWhileBusy p k r = .next r := by
  cases k <;> simp [ticksWhileBusy, h]

/-- Waiting for BUSY = 0 begins with one tick where BUSY = 1. -/
theorem ticksWhileBusy_of_busy {p : Pins} {r : Bench} (k : Nat) (h : r.block.busy = true) :
    ticksWhileBusy p (k + 1) r = andThen (tick p r) (ticksWhileBusy p k) := by
  simp [ticksWhileBusy, h]

/-- After a command a line is complete once BUSY = 0. -/
theorem untilComplete_of_command {r : Bench} (h : r.afterCommand = true) :
    untilComplete r = ticksWhileBusy Pins.idle 2 r := by
  simp [untilComplete, h]

/-- After a directive it is complete at once, whatever is in flight. -/
theorem untilComplete_of_directive {r : Bench} (h : r.afterCommand = false) : untilComplete r = .next r := by
  simp [untilComplete, h]

end Sys2Proof.Machine
end

