-- ==== Sys2Proof/Laws/PerInstr.lean ====
section
/-! SUPPORT. Facts about each command as syntax, one lemma per constructor of Instr. -/

namespace Sys2Proof.Laws

/-- A command is well formed, and the row of spec/opcode_table.json with its code, given as one byte, decodes to it. -/
def TableRow.Statement (i : Instr) : Prop :=
  i.wellFormed = true ∧ decodeTableWord 8 (encode i).toNat = some i

theorem TableRow.nop : TableRow.Statement .nop := by unfold TableRow.Statement; decide
theorem TableRow.step : TableRow.Statement .step := by unfold TableRow.Statement; decide
theorem TableRow.restart : TableRow.Statement .restart := by unfold TableRow.Statement; decide
theorem TableRow.rsvd : TableRow.Statement .rsvd := by unfold TableRow.Statement; decide

end Sys2Proof.Laws
end

