-- ==== Sys2Proof/Tests/Slice0.lean ====
section
/-! SUPPORT. Tests, each on one step or one function. Expected values are those of spec/95_test_vectors.md, of the tables
of the rules, or of hand calculation from a rule, as each comment says. Then one witness for each obligation that has
hypotheses: a concrete state and operands that meet them all together. -/

namespace Sys2Proof.Tests

open Sys2Proof Sys2Proof.Machine

/-- A block after reset in a build with `N_ELEMS = n`, with the given STATE and COUNT and what the issuer drives next. -/
def blockAt (n : Nat) (x : StateWord) (c : CountWord) (pins : List Pins) : State :=
  { State.reset with build := { nElems := n }, state := x, count := c, pins := pins }

/-- The next state, as a test reads it; State.reset where there is none. -/
def nextOf (o : Host.Outcome State Fault Refusal) : State :=
  match o with
  | .next t => t
  | .fault _ => State.reset
  | .refused _ => State.reset

/-- Whether an outcome is the given next state. -/
def answers (o : Host.Outcome State Fault Refusal) (t : State) : Bool :=
  match o with
  | .next u => decide (u = t)
  | .fault _ => false
  | .refused _ => false

theorem eq_next_of_answers {o : Host.Outcome State Fault Refusal} {t : State} (h : answers o t = true) :
    o = .next t := by
  cases o with
  | next u => simpa [answers] using h
  | fault f => cases f
  | refused r => simp [answers] at h

/-! ### Well-formedness, and decoding from codes written out from the table of 30_encoding.md R53 -/

theorem test_build_zero_refused : Config.Build.legal { nElems := 0 } = false := by decide
theorem test_build_too_large_refused : Config.Build.legal { nElems := 4294967296 } = false := by decide
theorem test_build_bounds_accepted :
    Config.Build.legal { nElems := 1 } = true ∧ Config.Build.legal { nElems := 4294967295 } = true := by decide
theorem test_illegal_build_step_refused :
    step (blockAt 0 42 0 []) = .refused (.buildOutOfRange 0) := rfl
theorem test_every_command_wellFormed : ∀ i : Instr, i.wellFormed = true := by intro i; cases i <;> rfl

theorem test_decode_nop : decodeTableWord 8 0b00 = some .nop := by decide
theorem test_decode_step : decodeTableWord 8 0b01 = some .step := by decide
theorem test_decode_restart : decodeTableWord 8 0b10 = some .restart := by decide
theorem test_decode_rsvd : decodeTableWord 8 0b11 = some .rsvd := by decide
theorem test_decode_wide_byte_refused : decodeBytes [0b100#8] = .error .widerThanPort := by decide
theorem test_decode_no_byte_refused : decodeBytes [] = .error .noCommand := by decide
theorem test_decode_two_bytes_refused : decodeBytes [1#8, 1#8] = .error .moreThanOneCommand := by decide

/-! ### The command-stream syntax (30_encoding.md R58 to R60) -/

theorem test_readLine_gen_with_comment : readLine ['G', 'E', 'N', ' ', '1', '2', ' ', ';', 'x'] = .ok (.gen 12) := by decide
theorem test_readLine_raw : readLine ['.', 'c', 'm', 'd', ' ', '0', 'b', '1', '0'] = .ok (.raw 2#2) := by decide
theorem test_readLine_lower_case_refused : readLine ['s', 't', 'e', 'p'] = .error .unknownWord := by decide
theorem test_readLine_comment_only_refused : readLine [';', ' ', 'S'] = .error .emptyLine := by decide

/-- After `STEP` and `@IDLE 1` from reset (P1, edge 2: `status` = 1): `@EXPECT` looks in that cycle, with the STEP still in
flight (R60). -/
theorem test_expect_after_idle_looks_at_once :
    (match perform (.expect .status 1)
        { block := { blockAt 5 42 0 [] with prod := 2027382#64, v2 := true, fold := 2027382#32 }, emitted := [],
          checks := [], afterCommand := false } with
      | .next r => r.checks
      | _ => []) = [true] := by decide

/-- In that same cycle, had the STEP been the previous line: `@EXPECT` waits for its write-back (P1, edge 3: 8). -/
theorem test_expect_after_command_waits :
    (match perform (.expect .status 8)
        { block := { blockAt 5 42 0 [] with prod := 2027382#64, v2 := true, fold := 2027382#32 }, emitted := [],
          checks := [], afterCommand := true } with
      | .next r => r.checks
      | _ => []) = [true] := by decide

/-! ### The datapath: rows of the table of 40_step.md R74 -/

/-- STATE = 1899818559: P = 0x5367_FFFF_5931, F = 2147483648, R = 1. -/
theorem test_datapath_subtraction_taken :
    multiply 1899818559#31 = 0x5367FFFF5931#64 ∧ foldProduct 0x5367FFFF5931#64 = 2147483648#32 ∧
      subtractOnce 2147483648#32 = 1#31 := by decide

/-- STATE = M, unreachable: F = M exactly, R = 0. -/
theorem test_datapath_at_modulus :
    foldProduct (multiply 2147483647#31) = 2147483647#32 ∧ subtractOnce 2147483647#32 = 0#31 := by decide

/-! ### One command, one edge (95_test_vectors.md section 2) -/

/-- N2: NOP with DONE = 1 is not an overrun. -/
theorem test_nop_when_done :
    (nextOf (step (blockAt 5 1404753842 5 [Pins.present 0b00#2]))).arch =
      { state := 1404753842#31, count := 5#32, err := false, cause := 0#4 } := by decide

/-- S8, first edge: the largest product, 0x5E47_7FFE_86E2 (R74). -/
theorem test_step_loads_largest_product :
    (nextOf (step (blockAt 2000000 2147483646 7 [Pins.present 0b01#2]))).prod = 0x5E477FFE86E2#64 := by decide

/-- S10: overrun, CAUSE = 2, STATE and COUNT unchanged. -/
theorem test_step_overrun :
    (nextOf (step (blockAt 5 1404753842 5 [Pins.present 0b01#2]))).arch =
      { state := 1404753842#31, count := 5#32, err := true, cause := 2#4 } := by decide

/-- T3: RESTART after a complete run keeps ERR and CAUSE. -/
theorem test_restart_keeps_error :
    (nextOf (step { blockAt 5 1404753842 5 [Pins.present 0b10#2] with err := true, cause := 2#4 })).arch =
      { state := 42#31, count := 0#32, err := true, cause := 2#4 } := by decide

/-- V1: the reserved code after reset, `status` = 0x0000_0014. -/
theorem test_rsvd_after_reset :
    (nextOf (step (blockAt 2000000 42 0 [Pins.present 0b11#2]))).status = 0x00000014#32 := by decide

/-- V2: a second error keeps the first cause, `status` = 0x0000_0024. -/
theorem test_rsvd_keeps_first_cause :
    (nextOf (step { blockAt 2000000 2027382 1 [Pins.present 0b11#2] with err := true, cause := 2#4 })).status =
      0x00000024#32 := by decide

/-! ### The pipeline and reset, one edge -/

/-- P1, edge 5: stage 2 folds 97863756522 to 1226992407 while the issuer presents another STEP, which waits. -/
theorem test_stage_two :
    (nextOf (step { blockAt 5 2027382 1 [Pins.present 0b01#2] with v1 := true, prod := 97863756522#64 })).fold =
      1226992407#32 := by decide

/-- P1, edge 15: the last write-back of the run, `status` = 0x0000_000A. -/
theorem test_write_back_of_last_value :
    (nextOf (step { blockAt 5 961371815 4 [] with v2 := true, fold := 1404753842#32 })).status = 0x0000000A#32 := by decide

/-- P1, edge 16: OUT_VALID falls at the overrun, `status` = 0x0000_0026. -/
theorem test_overrun_status :
    (nextOf (step { blockAt 5 1404753842 5 [Pins.present 0b01#2] with outValid := true })).status = 0x00000026#32 := by decide

/-- X2 and X4: `rst = 1` discards the STEP in stage 1 and wins over a STEP presented at the same edge. -/
theorem test_reset_discards_and_wins :
    step { blockAt 5 42 0 [{ rst := true, cmdValid := true, cmd := 0b01#2 }] with v1 := true, prod := 2027382#64 } =
      .next (blockAt 5 42 0 []) := eq_next_of_answers (by decide)

/-- 70_reset_and_hazards.md R112: a command before the first reset is refused, and so is looking at the ports. -/
theorem test_before_first_reset_refused :
    step { blockAt 5 42 0 [Pins.present 0b01#2] with phase := .beforeReset 0 } = .refused .commandBeforeFirstReset ∧
      State.observe { blockAt 5 42 0 [] with phase := .beforeReset 0 } = .refused .observationBeforeFirstReset :=
  ⟨rfl, rfl⟩

/-! ### Witnesses: states that meet the hypotheses of the obligations -/

/-- Right after reset, the issuer presenting STEP for three edges, N_ELEMS = 1. -/
def presenting : State := blockAt 1 42 0 (List.replicate 3 (Pins.present 0b01#2))

/-- A STEP from the seed in stage 1 (95_test_vectors.md P1, edge 1), N_ELEMS = 5. -/
def inStageOne : State := { blockAt 5 42 0 [] with v1 := true, prod := 2027382#64 }

/-- The same STEP in stage 2 (P1, edge 2). -/
def inStageTwo : State := { blockAt 5 42 0 [] with prod := 2027382#64, v2 := true, fold := 2027382#32 }

/-- After its write-back (P1, edge 3). -/
def writtenBack : State := { blockAt 5 2027382 1 [] with outValid := true, prod := 2027382#64, fold := 2027382#32 }

/-- A complete run of N_ELEMS = 1, with the issuer presenting the code given. -/
def complete (code : CmdCode) : State := blockAt 1 2027382 1 [Pins.present code]

theorem witness_presenting_inv : BlockInv presenting := by constructor <;> decide
theorem witness_inStageOne_inv : BlockInv inStageOne := by constructor <;> decide
theorem witness_inStageTwo_inv : BlockInv inStageTwo := by constructor <;> decide
theorem witness_writtenBack_inv : BlockInv writtenBack := by constructor <;> decide
theorem witness_complete_inv : BlockInv (complete 0b01#2) := by constructor <;> decide

theorem witness_DecodeAndEncodeAreInverse : Instr.wellFormed .rsvd = true := by decide
theorem witness_TableWords_boundary :
    (3 : Nat) < 4 ∧ decodeTableWord 8 3 = some .rsvd ∧ decodeTableWord 8 4 = none ∧ decodeTableWord 8 255 = none := by
  decide
theorem witness_HandshakeDecidesAcceptance_accepted :
    presenting.live = true ∧ presenting.inputNow.cmdValid = true ∧ presenting.cmdReady = true := by decide
theorem witness_HandshakeDecidesAcceptance_no_command :
    writtenBack.live = true ∧ writtenBack.inputNow.cmdValid = false ∧ writtenBack.cmdReady = true := by decide
theorem witness_HandshakeDecidesAcceptance_not_ready : inStageTwo.live = true ∧ inStageTwo.cmdReady = false := by decide
theorem witness_PlacedCommandRunsAtTheNextStep : inStageOne.build.legal = true := by decide
theorem witness_HeldCommandIsAccepted :
    ({ block := inStageOne, emitted := [], checks := [], afterCommand := true } : Bench).block.live = true := by decide
theorem witness_DirectivesActAndCheck :
    ({ block := inStageTwo, emitted := [], checks := [], afterCommand := true } : Bench).block.live = true ∧
      ({ block := inStageTwo, emitted := [], checks := [], afterCommand := true } : Bench).afterCommand = true ∧
      ({ block := inStageTwo, emitted := [], checks := [], afterCommand := false } : Bench).afterCommand = false := by
  decide
theorem witness_RecurrenceHasFullPeriod :
    1 ≤ 2147483646 ∧ 2147483646 < modulus ∧ 0 < 1 ∧ 1 < modulus - 1 ∧ 2147483645 < modulus - 1 := by decide
theorem witness_NopChangesNoArchitecturalRegister : (complete 0b00#2).acceptedNow = some .nop := by decide
theorem witness_StepAtItsAcceptanceEdge_computes : presenting.count.toNat ≠ presenting.build.nElems := by decide
theorem witness_StepAtItsAcceptanceEdge_overrun :
    (complete 0b01#2).count.toNat = (complete 0b01#2).build.nElems := by decide
theorem witness_RestartStartsANewRun :
    (complete 0b10#2).build.legal = true ∧ (complete 0b10#2).acceptedNow = some .restart ∧
      exec .restart (complete 0b10#2) = .next (blockAt 1 42 0 [Pins.present 0b10#2]) :=
  ⟨by decide, by decide, eq_next_of_answers (by decide)⟩
theorem witness_ReservedCodeIsRecorded :
    (complete 0b11#2).live = true ∧ (complete 0b11#2).acceptedNow = some .rsvd := by decide
theorem witness_ReservedCodeIsRecorded_second_error : (State.latchError 2#4 presenting).err = true := by decide
theorem witness_SingleEdgeCommandsComplete_not_step :
    (complete 0b10#2).live = true ∧ (complete 0b10#2).acceptedNow = some .restart ∧ Instr.restart ≠ .step := by decide
theorem witness_SingleEdgeCommandsComplete_overrun :
    (complete 0b01#2).live = true ∧ (complete 0b01#2).acceptedNow = some .step ∧ (complete 0b01#2).done = true := by
  decide
theorem witness_OverrunComputesNothing :
    (complete 0b01#2).live = true ∧ (complete 0b01#2).acceptedNow = some .step ∧
      (complete 0b01#2).count.toNat = (complete 0b01#2).build.nElems ∧ (complete 0b01#2).err = false ∧
      (State.latchError 1#4 (complete 0b01#2)).err = true := by decide
theorem witness_RecordErrorKeepsTheFirstCause :
    presenting.err = false ∧ (State.latchError 1#4 presenting).err = true ∧ (complete 0b01#2).done = true := by decide
theorem witness_OnlyResetClearsErrors :
    (State.latchError 1#4 presenting).live = true ∧ (State.latchError 1#4 presenting).inputNow.rst = false ∧
      (State.latchError 1#4 presenting).err = true ∧
      ((State.latchError 1#4 presenting).drive Pins.assertReset).inputNow.rst = true := by decide
theorem witness_ErrAndCauseAtEveryEdge_rsvd :
    BlockInv (complete 0b11#2) ∧ (complete 0b11#2).acceptedNow = some .rsvd ∧
      step (complete 0b11#2) = .next (State.latchError 1#4 (blockAt 1 2027382 1 [])) :=
  ⟨by constructor <;> decide, by decide, eq_next_of_answers (by decide)⟩
theorem witness_ErrAndCauseAtEveryEdge_overrun :
    BlockInv (complete 0b01#2) ∧ (complete 0b01#2).acceptedNow = some .step ∧ (complete 0b01#2).done = true ∧
      step (complete 0b01#2) = .next (State.latchError 2#4 (blockAt 1 2027382 1 [])) :=
  ⟨witness_complete_inv, by decide, by decide, eq_next_of_answers (by decide)⟩
theorem witness_ErrAndCauseAtEveryEdge_unchanged :
    BlockInv inStageOne ∧ inStageOne.acceptedNow = none ∧ step inStageOne = .next inStageTwo :=
  ⟨witness_inStageOne_inv, by decide, eq_next_of_answers (by decide)⟩
theorem witness_ErrAndCauseAtEveryEdge_reset :
    BlockInv (inStageOne.drive Pins.assertReset) ∧
      step (inStageOne.drive Pins.assertReset) = .next (blockAt 5 42 0 []) :=
  ⟨by constructor <;> decide, eq_next_of_answers (by decide)⟩
theorem witness_RunningBlockNeverStops : inStageTwo.live = true := by decide
theorem witness_ResetEdgeSetsEveryRegister :
    (inStageTwo.drive Pins.assertReset).build.legal = true ∧ (inStageTwo.drive Pins.assertReset).inputNow.rst = true := by
  decide
theorem witness_ResetValuesAndPorts :
    Config.normative.legal = true ∧ (([] : List Pins).headD Pins.idle).rst = false := by decide
theorem witness_ResetMayBeHeld :
    (blockAt 5 7 3 [Pins.assertReset, Pins.assertReset]).build.legal = true ∧
      1 < (blockAt 5 7 3 [Pins.assertReset, Pins.assertReset]).pins.length ∧
      (∀ p ∈ (blockAt 5 7 3 [Pins.assertReset, Pins.assertReset]).pins.take 2, p.rst = true) := by decide
theorem witness_ResetMayBeHeld_boundary :
    (blockAt 5 7 3 [Pins.assertReset, Pins.assertReset]).phase = .running ∧ 0 < 1 := by decide
theorem witness_BeforeTheFirstReset :
    (State.powerOn Config.normative [Pins.idle]).build.legal = true ∧
      (State.powerOn Config.normative [Pins.idle]).phase = .beforeReset 0 ∧
      (State.powerOn Config.normative [Pins.idle]).inputNow.cmdValid = false ∧
      (State.powerOn Config.normative [Pins.present 1#2]).inputNow.cmdValid = true ∧
      (State.powerOn Config.normative [Pins.assertReset]).inputNow.rst = true :=
  ⟨by decide, rfl, rfl, rfl, rfl⟩
theorem witness_BuildIsFixedAndInRange :
    (blockAt 0 42 0 []).build.legal = false ∧ step inStageOne = .next inStageTwo :=
  ⟨by decide, eq_next_of_answers (by decide)⟩
theorem witness_StageTwoFolds :
    inStageOne.live = true ∧ inStageOne.inputNow.rst = false ∧ inStageOne.v1 = true ∧ inStageOne.v2 = false ∧
      inStageOne.prod.toNat % 2 ^ 31 + inStageOne.prod.toNat / 2 ^ 31 < 2 ^ 32 := by decide
theorem witness_StageTwoFolds_largest_sum :
    (0x400000007FFFFFFF#64).toNat % 2 ^ 31 + (0x400000007FFFFFFF#64).toNat / 2 ^ 31 = 2 ^ 32 - 1 := by decide
theorem witness_StageThreeWritesBack :
    inStageTwo.live = true ∧ inStageTwo.inputNow.rst = false ∧ inStageTwo.v2 = true ∧ inStageTwo.v1 = false ∧
      inStageTwo.fold.toNat < 2 ^ 32 - 1 ∧ inStageTwo.count.toNat + 1 < 2 ^ 32 := by decide
theorem witness_OutValidIsTheWriteBackPulse :
    writtenBack.live = true ∧ step inStageTwo = .next writtenBack :=
  ⟨by decide, eq_next_of_answers (by decide)⟩
theorem witness_IdleEdgeHoldsEveryRegister :
    writtenBack.live = true ∧ writtenBack.inputNow.rst = false ∧ writtenBack.inputNow.cmdValid = false ∧
      writtenBack.busy = false := by decide
theorem witness_AcceptedStepAdvancesTheRecurrence :
    presenting.live = true ∧ presenting.acceptedNow = some .step ∧
      presenting.count.toNat < presenting.build.nElems ∧ presenting.noReset 3 = true := by decide
theorem witness_InterlockHoldsForTwoEdges : presenting.done = false ∧ presenting.noReset 3 = true := by decide
theorem witness_BusyIsLiftedWithinTwoEdges :
    inStageOne.live = true ∧ inStageOne.noReset 2 = true ∧ inStageOne.busy = true := by decide
theorem witness_OneValueEveryThreeEdges :
    BlockInv presenting ∧ presenting.busy = false ∧ presenting.pins = List.replicate (3 * 1) (Pins.present 0b01#2) ∧
      presenting.count.toNat + 1 ≤ presenting.build.nElems :=
  ⟨witness_presenting_inv, by decide, by decide, by decide⟩
theorem witness_WhatWritesState_restart :
    (complete 0b10#2).live = true ∧ (complete 0b10#2).acceptedNow = some .restart ∧
      step (complete 0b10#2) = .next (blockAt 1 42 0 []) :=
  ⟨by decide, by decide, eq_next_of_answers (by decide)⟩
theorem witness_WhatWritesState_write_back :
    inStageTwo.live = true ∧ inStageTwo.inputNow.rst = false ∧ inStageTwo.v2 = true ∧
      step inStageTwo = .next writtenBack :=
  ⟨by decide, by decide, by decide, eq_next_of_answers (by decide)⟩
theorem witness_WhatWritesState_unchanged :
    inStageOne.live = true ∧ inStageOne.inputNow.rst = false ∧ inStageOne.v2 = false ∧
      inStageOne.acceptedNow ≠ some .restart ∧ step inStageOne = .next inStageTwo :=
  ⟨by decide, by decide, by decide, by decide, eq_next_of_answers (by decide)⟩
theorem witness_WhatWritesCount :
    BlockInv inStageTwo ∧ OnSequence inStageTwo ∧ inStageTwo.inputNow.rst = false ∧ inStageTwo.v2 = true ∧
      step inStageTwo = .next writtenBack :=
  ⟨witness_inStageTwo_inv, rfl, rfl, rfl, eq_next_of_answers (by decide)⟩
theorem witness_WhatWritesCount_restart :
    BlockInv (complete 0b10#2) ∧ OnSequence (complete 0b10#2) ∧ (complete 0b10#2).acceptedNow = some .restart :=
  ⟨by constructor <;> decide, rfl, by decide⟩
theorem witness_DoneComparesCountWithNElems : presenting.build.legal = true ∧ (complete 0#2).done = true := by decide
theorem witness_PortsShowTheRegisters : inStageOne.live = true := by decide
theorem witness_OutDataShowsTheValueCountNames :
    BlockInv writtenBack ∧ OnSequence writtenBack ∧ 1 ≤ writtenBack.count.toNat ∧
      BlockInv presenting ∧ OnSequence presenting ∧ presenting.count.toNat = 0 :=
  ⟨witness_writtenBack_inv, rfl, by decide, witness_presenting_inv, rfl, by decide⟩
theorem witness_InvariantsHoldAfterReset : Config.Build.legal { nElems := 4294967295 } = true := by decide
theorem witness_EveryEdgeKeepsBlockInv : BlockInv inStageTwo := witness_inStageTwo_inv
theorem witness_EveryEdgeKeepsOnSequence : BlockInv inStageTwo ∧ OnSequence inStageTwo :=
  ⟨witness_inStageTwo_inv, rfl⟩
theorem witness_EmittedValuesAreNonzeroResidues : BlockInv inStageTwo ∧ writtenBack.emitted = some 2027382#32 :=
  ⟨witness_inStageTwo_inv, by decide⟩
theorem witness_CycleLevelRefinesTransactionLevel :
    BlockInv presenting ∧ presenting.busy = false ∧ writtenBack.busy = false :=
  ⟨witness_presenting_inv, by decide, by decide⟩
theorem witness_ValuesDependOnlyOnAcceptedCommands :
    BlockInv presenting ∧ presenting.busy = false ∧
      runEdges 0 presenting presenting.history = .next (presenting, presenting.history) :=
  ⟨witness_presenting_inv, by decide, rfl⟩
theorem witness_RunEmitsTheSequence :
    AtRunStart presenting ∧ presenting.noReset 3 = true ∧ Instr.restart ∉ presenting.history.accepted ∧
      (complete 0#2).runComplete = true :=
  ⟨⟨witness_presenting_inv, rfl, rfl, by decide⟩, by decide, by decide, by decide⟩
theorem witness_ErrorFreeRunEmitsOneValuePerStep :
    BlockInv writtenBack ∧ writtenBack.busy = false ∧ NoErrorRecorded writtenBack = true :=
  ⟨witness_writtenBack_inv, by decide, by decide⟩
theorem witness_TransactionRunProducesTheSequence :
    Config.Build.legal { nElems := 1 } = true ∧ 1 ≤ ({ nElems := 1 } : Config.Build).nElems := by decide

end Sys2Proof.Tests
end

section
/-! PROOFS. The family 10_state.md: what each register takes at an edge of a block past its first reset, one rule per
register, and the statements read off these rules. -/

namespace Sys2Proof.Machine

/-! ### An edge of a block past its first reset -/

/-- A live block is a legal build past its first reset edge (00_scope.md R4, 70_reset_and_hazards.md R113). -/
theorem State.live_eq_true {s : State} : s.live = true ↔ s.build.legal = true ∧ s.phase = .running := by
  simp [State.live]

/-- The builds that exist, as a range of `N_ELEMS` (00_scope.md R4). -/
theorem buildLegal_eq_true {b : Config.Build} : b.legal = true ↔ 1 ≤ b.nElems ∧ b.nElems ≤ 2 ^ 32 - 1 := by
  simp [Config.Build.legal]

/-- An edge accepts no command exactly when none is presented, the block is busy, or `rst = 1` (30_encoding.md R52). -/
theorem acceptedNow_eq_none {s : State} :
    s.acceptedNow = none ↔ s.inputNow.cmdValid = false ∨ s.busy = true ∨ s.inputNow.rst = true := by
  simp [State.acceptedNow, State.accepts, State.cmdReady, or_iff_not_imp_left]

/-- An edge that accepts a command is no reset edge, and the pipeline is empty at it (R52, 70_reset_and_hazards.md
R118). -/
theorem rst_v1_v2_of_accepted {s : State} {i : Instr} (h : s.acceptedNow = some i) :
    s.inputNow.rst = false ∧ s.v1 = false ∧ s.v2 = false := by
  obtain ⟨-, busy, rst, -⟩ := acceptedNow_eq_some.mp h
  exact ⟨rst, s.busy_eq_false.mp busy⟩

/-- Every command has a meaning in every state: its edge answers a next state (60_exceptions.md R98). -/
theorem exec_total (i : Instr) (s : State) : ∃ t, exec i s = .next t := by
  cases i with
  | nop => exact ⟨_, rfl⟩
  | step =>
    obtain ⟨-, e⟩ | ⟨-, e⟩ := execStep_cases s
    · exact ⟨_, e⟩
    · exact ⟨_, e⟩
  | restart => exact ⟨_, rfl⟩
  | rsvd => exact ⟨_, rfl⟩

/-- The three kinds of edge of a block past its first reset: reset, acceptance, and the pipeline's own advance
(70_reset_and_hazards.md R110, R120), told apart by `acceptedNow`. -/
theorem step_cases_of_running {s t : State} (hp : s.phase = .running) (h : step s = .next t) :
    (s.inputNow.rst = true ∧ s.acceptedNow = none ∧ t = s.nextInputs.resetRegisters) ∨
    (∃ i, s.acceptedNow = some i ∧ exec i s.nextInputs = .next t) ∨
    (s.inputNow.rst = false ∧ s.acceptedNow = none ∧ t = advance s.nextInputs) := by
  obtain ⟨-, ⟨rst, e⟩ | ⟨-, -, n, hn, -⟩ | ⟨rst, -, valid, busy, e⟩ | ⟨rst, -, idle, e⟩⟩ := step_cases h
  · exact .inl ⟨rst, acceptedNow_eq_none.mpr (.inr (.inr rst)), e⟩
  · rw [hp] at hn
    cases hn
  · exact .inr (.inl ⟨_, acceptedNow_eq_some.mpr ⟨valid, busy, rst, rfl⟩, e⟩)
  · exact .inr (.inr ⟨rst, acceptedNow_eq_none.mpr (idle.imp_right .inl), e⟩)

/-- Every edge of a live block answers a next state (60_exceptions.md R98, "the block does not stop"). -/
theorem step_total_of_live {s : State} (h : s.live = true) : ∃ t, step s = .next t := by
  obtain ⟨legal, running⟩ := State.live_eq_true.mp h
  rw [step_of_running legal running]
  split
  · exact ⟨_, rfl⟩
  · split
    · exact exec_total _ _
    · exact ⟨_, rfl⟩

/-! ### The pipeline's own advance, register by register (70_reset_and_hazards.md R115 to R117) -/

section Advance
variable (s : State)

@[simp] theorem advance_build : (advance s).build = s.build := by
  obtain ⟨-, -, e⟩ | ⟨-, -, e⟩ | ⟨-, -, e⟩ | ⟨-, -, e⟩ := advance_cases s <;> simp [e]

@[simp] theorem advance_phase : (advance s).phase = s.phase := by
  obtain ⟨-, -, e⟩ | ⟨-, -, e⟩ | ⟨-, -, e⟩ | ⟨-, -, e⟩ := advance_cases s <;> simp [e]

@[simp] theorem advance_state : (advance s).state = if s.v2 then subtractOnce s.fold else s.state := by
  obtain ⟨-, h, e⟩ | ⟨-, h, e⟩ | ⟨-, h, e⟩ | ⟨-, h, e⟩ := advance_cases s <;> simp [e, h]

@[simp] theorem advance_count :
    (advance s).count = if s.v2 then assign 32 (s.count.toNat + 1) else s.count := by
  obtain ⟨-, h, e⟩ | ⟨-, h, e⟩ | ⟨-, h, e⟩ | ⟨-, h, e⟩ := advance_cases s <;> simp [e, h]

@[simp] theorem advance_err : (advance s).err = s.err := by
  obtain ⟨-, -, e⟩ | ⟨-, -, e⟩ | ⟨-, -, e⟩ | ⟨-, -, e⟩ := advance_cases s <;> simp [e]

@[simp] theorem advance_cause : (advance s).cause = s.cause := by
  obtain ⟨-, -, e⟩ | ⟨-, -, e⟩ | ⟨-, -, e⟩ | ⟨-, -, e⟩ := advance_cases s <;> simp [e]

@[simp] theorem advance_outValid : (advance s).outValid = s.v2 := by
  obtain ⟨-, h, e⟩ | ⟨-, h, e⟩ | ⟨-, h, e⟩ | ⟨-, h, e⟩ := advance_cases s <;> simp [e, h]

end Advance

/-! ### An accepted command, register by register (40_step.md R65, 41_control.md R85 to R87) -/

/-- The cause an accepted command records where ERR = 0: the reserved code's, and an overrun STEP's (60_exceptions.md
R96). -/
def errorCauseOf (i : Instr) (done : Bool) : Option CauseWord :=
  match i with
  | .nop => none
  | .step => if done then some causeOverrun else none
  | .restart => none
  | .rsvd => some causeRsvdCmd

section Exec
variable {i : Instr} {s t : State}

theorem exec_build (h : exec i s = .next t) : t.build = s.build := by
  obtain ⟨-, rfl⟩ | ⟨-, -, rfl⟩ | ⟨-, -, rfl⟩ | ⟨-, rfl⟩ | ⟨-, rfl⟩ := exec_cases h <;> simp

theorem exec_phase (h : exec i s = .next t) : t.phase = s.phase := by
  obtain ⟨-, rfl⟩ | ⟨-, -, rfl⟩ | ⟨-, -, rfl⟩ | ⟨-, rfl⟩ | ⟨-, rfl⟩ := exec_cases h <;> simp

theorem exec_state (h : exec i s = .next t) : t.state = if i = .restart then seed else s.state := by
  obtain ⟨rfl, rfl⟩ | ⟨rfl, -, rfl⟩ | ⟨rfl, -, rfl⟩ | ⟨rfl, rfl⟩ | ⟨rfl, rfl⟩ := exec_cases h <;> simp

theorem exec_count (h : exec i s = .next t) : t.count = if i = .restart then 0#32 else s.count := by
  obtain ⟨rfl, rfl⟩ | ⟨rfl, -, rfl⟩ | ⟨rfl, -, rfl⟩ | ⟨rfl, rfl⟩ | ⟨rfl, rfl⟩ := exec_cases h <;> simp

theorem exec_outValid (h : exec i s = .next t) : t.outValid = false := by
  obtain ⟨-, rfl⟩ | ⟨-, -, rfl⟩ | ⟨-, -, rfl⟩ | ⟨-, rfl⟩ | ⟨-, rfl⟩ := exec_cases h <;> simp

theorem exec_err (h : exec i s = .next t) : t.err = (s.err || (errorCauseOf i s.done).isSome) := by
  obtain ⟨rfl, rfl⟩ | ⟨rfl, d, rfl⟩ | ⟨rfl, d, rfl⟩ | ⟨rfl, rfl⟩ | ⟨rfl, rfl⟩ := exec_cases h <;>
    simp [errorCauseOf, *]

theorem exec_cause (h : exec i s = .next t) :
    t.cause = if s.err then s.cause else (errorCauseOf i s.done).getD s.cause := by
  cases err : s.err <;>
    obtain ⟨rfl, rfl⟩ | ⟨rfl, d, rfl⟩ | ⟨rfl, d, rfl⟩ | ⟨rfl, rfl⟩ | ⟨rfl, rfl⟩ := exec_cases h <;>
      simp [errorCauseOf, *]

end Exec

/-! ### An edge, register by register -/

/-- The cause the coming edge records where ERR = 0, if it accepts a command that is an error (60_exceptions.md R96). -/
def State.causeNow (s : State) : Option CauseWord := s.acceptedNow.bind (errorCauseOf · s.done)

section Step
variable {s t : State}

/-- No step changes the build (00_scope.md R4). -/
theorem step_build (h : step s = .next t) : t.build = s.build := by
  obtain ⟨-, ⟨-, rfl⟩ | ⟨-, -, n, -, rfl⟩ | ⟨-, -, -, -, e⟩ | ⟨-, -, -, rfl⟩⟩ := step_cases h
  · simp
  · simp
  · simpa using exec_build e
  · simp

/-- A block past its first reset stays so. -/
theorem step_phase (hp : s.phase = .running) (h : step s = .next t) : t.phase = .running := by
  obtain ⟨-, -, rfl⟩ | ⟨i, -, e⟩ | ⟨-, -, rfl⟩ := step_cases_of_running hp h
  · simp
  · simpa [hp] using exec_phase e
  · simpa using hp

/-- STATE at an edge: SEED at reset, the difference at a write-back, SEED at RESTART, else itself (10_state.md R21). -/
theorem step_state (hp : s.phase = .running) (h : step s = .next t) :
    t.state = if s.inputNow.rst then seed else if s.v2 then subtractOnce s.fold
      else if s.acceptedNow = some .restart then seed else s.state := by
  obtain ⟨rst, -, rfl⟩ | ⟨i, acc, e⟩ | ⟨rst, acc, rfl⟩ := step_cases_of_running hp h
  · simp [rst]
  · obtain ⟨rst, -, v2⟩ := rst_v1_v2_of_accepted acc
    simpa [rst, v2, acc] using exec_state e
  · cases v2 : s.v2 <;> simp [rst, acc, v2]

/-- COUNT at an edge: 0 at reset, one more at a write-back, 0 at RESTART, else itself (R23). -/
theorem step_count (hp : s.phase = .running) (h : step s = .next t) :
    t.count = if s.inputNow.rst then 0#32 else if s.v2 then assign 32 (s.count.toNat + 1)
      else if s.acceptedNow = some .restart then 0#32 else s.count := by
  obtain ⟨rst, -, rfl⟩ | ⟨i, acc, e⟩ | ⟨rst, acc, rfl⟩ := step_cases_of_running hp h
  · simp [rst]
  · obtain ⟨rst, -, v2⟩ := rst_v1_v2_of_accepted acc
    simpa [rst, v2, acc] using exec_count e
  · cases v2 : s.v2 <;> simp [rst, acc, v2]

/-- OUT_VALID after an edge says whether the edge was a write-back (R31, 70_reset_and_hazards.md R117). -/
theorem step_outValid (hp : s.phase = .running) (h : step s = .next t) :
    t.outValid = (!s.inputNow.rst && s.v2) := by
  obtain ⟨rst, -, rfl⟩ | ⟨i, acc, e⟩ | ⟨rst, -, rfl⟩ := step_cases_of_running hp h
  · simp [rst]
  · obtain ⟨-, -, v2⟩ := rst_v1_v2_of_accepted acc
    simpa [v2] using exec_outValid e
  · simp [rst]

/-- ERR after an edge: cleared by reset, else set if it was set or an error is accepted (R26, 60_exceptions.md R97). -/
theorem step_err (hp : s.phase = .running) (h : step s = .next t) :
    t.err = (!s.inputNow.rst && (s.err || s.causeNow.isSome)) := by
  obtain ⟨rst, -, rfl⟩ | ⟨i, acc, e⟩ | ⟨rst, acc, rfl⟩ := step_cases_of_running hp h
  · simp [rst]
  · obtain ⟨rst, -, -⟩ := rst_v1_v2_of_accepted acc
    simpa [rst, acc, State.causeNow] using exec_err e
  · simp [rst, acc, State.causeNow]

/-- CAUSE after an edge: cleared by reset, kept where ERR was set, else what an accepted error records (R26, R97). -/
theorem step_cause (hp : s.phase = .running) (h : step s = .next t) :
    t.cause = if s.inputNow.rst then causeNone else if s.err then s.cause else s.causeNow.getD s.cause := by
  obtain ⟨rst, -, rfl⟩ | ⟨i, acc, e⟩ | ⟨rst, acc, rfl⟩ := step_cases_of_running hp h
  · simp [rst]
  · obtain ⟨rst, -, -⟩ := rst_v1_v2_of_accepted acc
    cases err : s.err <;> simpa [rst, acc, err, State.causeNow] using exec_cause e
  · simp [rst, acc, State.causeNow]

end Step

/-! ### The ports -/

/-- `out_data` shows STATE as a number (10_state.md R33). -/
@[simp] theorem State.outData_toNat (s : State) : s.outData.toNat = s.state.toNat := by
  have := s.state.isLt
  simp [State.outData]
  omega

/-- The status word bit by bit (R27). -/
theorem State.status_getLsbD (s : State) (k : Nat) :
    s.status.getLsbD k =
      if k = 0 then s.busy else if k = 1 then s.done else if k = 2 then s.err else if k = 3 then s.outValid
      else s.cause.getLsbD (k - 4) := by
  unfold State.status
  rw [BitVec.getLsbD_append, BitVec.getLsbD_append, BitVec.getLsbD_append, BitVec.getLsbD_append,
    BitVec.getLsbD_append]
  match k with
  | 0 | 1 | 2 | 3 => simp
  | k + 4 => simpa using fun bit => BitVec.lt_of_getLsbD bit

/-- The reserved bits of the status word are hardwired to 0 (R27, R34): CAUSE, above the four flags, has four bits. -/
theorem State.status_reserved (s : State) : s.status.extractLsb 31 8 = 0#24 := by
  refine BitVec.eq_of_getLsbD_eq fun k hk => ?_
  have above_cause : s.cause.getLsbD (8 + k - 4) = false := BitVec.getLsbD_of_ge _ _ (by omega)
  rw [BitVec.getLsbD_extractLsb, State.status_getLsbD, above_cause, if_neg (by omega), if_neg (by omega),
    if_neg (by omega), if_neg (by omega)]
  simp

/-- With no flag set and no cause the status word is 0 (R27). -/
theorem State.status_eq_zero {s : State} (busy : s.busy = false) (done : s.done = false) (err : s.err = false)
    (valid : s.outValid = false) (cause : s.cause = causeNone) : s.status = 0#32 := by
  simp [State.status, busy, done, err, valid, cause, causeNone]

/-- COUNT = 0 is below every legal `N_ELEMS`, so DONE is 0 there (R24, 00_scope.md R4). -/
theorem State.done_of_count_zero {s : State} (legal : s.build.legal = true) (zero : s.count = 0#32) :
    s.done = false := by
  obtain ⟨pos, -⟩ := buildLegal_eq_true.mp legal
  simp only [State.done, zero, beq_eq_false_iff_ne]
  change 0 ≠ s.build.nElems
  omega

/-- A reset leaves what the issuer drives at the coming edges. -/
@[simp] theorem State.resetRegisters_inputNow (s : State) : s.resetRegisters.inputNow = s.inputNow := rfl

/-- What the ports read after a reset edge, in the first cycle with `rst = 0` (R32). -/
theorem State.observe_resetRegisters {s : State} (legal : s.build.legal = true) (rst : s.inputNow.rst = false) :
    s.resetRegisters.observe =
      .next { cmdReady := true, outValid := false, outData := 0x2A#32, count := 0#32, status := 0#32 } := by
  have not_done : s.resetRegisters.done = false := State.done_of_count_zero legal rfl
  have ready : s.resetRegisters.cmdReady = true := by simp [State.cmdReady, rst]
  have status : s.resetRegisters.status = 0#32 := State.status_eq_zero rfl not_done rfl rfl rfl
  have ports : s.resetRegisters.ports =
      { cmdReady := true, outValid := false, outData := 0x2A#32, count := 0#32, status := 0#32 } := by
    simp [State.ports, State.outData, seed, ready, status]
  simp [State.observe, legal, ports]

/-- A block past its first reset has emitted the value on `out_data` where OUT_VALID = 1 (R31, 40_step.md R73). -/
theorem State.emitted_of_outValid {s : State} (hp : s.phase = .running) (hv : s.outValid = true) :
    s.emitted = some s.outData := by
  simp [State.emitted, hp, hv]

/-! ### What is recorded, and what is written back -/

/-- What an edge can record: nothing, or the cause of the error it accepts (60_exceptions.md R96). -/
theorem State.causeNow_cases (s : State) :
    (s.causeNow = none ∧ s.acceptedNow ≠ some .rsvd ∧ (s.acceptedNow ≠ some .step ∨ s.done = false)) ∨
    (s.causeNow = some causeRsvdCmd ∧ s.acceptedNow = some .rsvd) ∨
    (s.causeNow = some causeOverrun ∧ s.acceptedNow = some .step ∧ s.done = true) := by
  cases acc : s.acceptedNow with
  | none => simp [State.causeNow, acc]
  | some i => cases i <;> cases d : s.done <;> simp [State.causeNow, errorCauseOf, acc, d]

/-- The fold of a product below 2^47 and one conditional subtraction give the residue, since 2^31 is 1 modulo M
(40_step.md R71, R72, R74). -/
theorem subtractOnce_of_fold {f : FoldWord} {p : Nat} (hp : p < 2 ^ 47) (hf : f.toNat = p % 2 ^ 31 + p / 2 ^ 31) :
    (subtractOnce f).toNat = p % modulus := by
  rw [subtractOnce_toNat (by omega), hf]
  unfold modulus
  split <;> omega

/-- In a state meeting the invariant, stage 3 holds the successor of STATE (40_step.md R66, R74). -/
theorem BlockInv.subtractOnce_fold {s : State} (inv : BlockInv s) (h : s.v2 = true) :
    (subtractOnce s.fold).toNat = successor s.state.toNat := by
  obtain ⟨fold_eq, -⟩ := inv.stage_two h
  refine subtractOnce_of_fold ?_ fold_eq
  have := s.state.isLt
  unfold multiplier
  omega

/-- At a write-back COUNT is below `N_ELEMS`, so that one more fits it (10_state.md R23). -/
theorem BlockInv.count_writeBack {s : State} (inv : BlockInv s) (h : s.v2 = true) :
    (assign 32 (s.count.toNat + 1)).toNat = s.count.toNat + 1 ∧ s.count.toNat + 1 ≤ s.build.nElems := by
  obtain ⟨-, count_lt⟩ := inv.stage_two h
  obtain ⟨-, nElems_le⟩ := buildLegal_eq_true.mp inv.build_legal
  exact ⟨assign_toNat (by omega), count_lt⟩

/-- "COUNT never exceeds N_ELEMS": every edge keeps it so (R23). -/
theorem BlockInv.step_count_le {s t : State} (inv : BlockInv s) (h : step s = .next t) :
    t.count.toNat ≤ t.build.nElems := by
  have := inv.count_le
  rw [step_build h, step_count inv.running h]
  split
  · simp
  · split
    · rename_i v2
      obtain ⟨e, le⟩ := inv.count_writeBack v2
      omega
    · split
      · simp
      · assumption

/-- The value a write-back emits is the one the new COUNT names (R23, 40_step.md R68). -/
theorem writeBack_emits_sequence {s t : State} (inv : BlockInv s) (seq : OnSequence s) (h : step s = .next t)
    (rst : s.inputNow.rst = false) (v2 : s.v2 = true) :
    t.emitted = some t.outData ∧ t.outData.toNat = sequenceAt s.count.toNat := by
  have valid : t.outValid = true := by simpa [rst, v2] using step_outValid inv.running h
  have state : t.state = subtractOnce s.fold := by simpa [rst, v2] using step_state inv.running h
  refine ⟨State.emitted_of_outValid (step_phase inv.running h) valid, ?_⟩
  calc t.outData.toNat = (subtractOnce s.fold).toNat := by rw [State.outData_toNat, state]
    _ = successor s.state.toNat := inv.subtractOnce_fold v2
    _ = sequenceAt s.count.toNat := congrArg successor seq

/-- Every edge keeps CAUSE one of 0, 1, 2, and 0 exactly when ERR = 0 (10_state.md R26, 60_exceptions.md R96). -/
theorem BlockInv.step_cause_legal {s t : State} (inv : BlockInv s) (h : step s = .next t) :
    t.cause.toNat ≤ 2 ∧ (t.cause = causeNone ↔ t.err = false) := by
  have cause_none := inv.cause_none
  have cause_legal := inv.cause_legal
  rw [step_err inv.running h, step_cause inv.running h]
  cases s.inputNow.rst with
  | true => simp [causeNone]
  | false =>
    cases err : s.err with
    | true => simpa [err] using And.intro cause_legal cause_none
    | false =>
      obtain ⟨e, -⟩ | ⟨e, -⟩ | ⟨e, -⟩ := s.causeNow_cases
      · simpa [e, err] using And.intro cause_legal cause_none
      · simp [e, causeNone, causeRsvdCmd]
      · simp [e, causeNone, causeOverrun]

/-! ### The statements -/

/-- Settles O19: the rules for ERR and CAUSE at an edge, read at what the edge accepts. -/
theorem errAndCauseAtEveryEdge : Obligations.ErrAndCauseAtEveryEdge := by
  intro s t inv h
  have err := step_err inv.running h
  have cause := step_cause inv.running h
  refine ⟨fun rst => ?_, fun rst e acc => ?_, fun rst e acc d => ?_, fun rst kept => ?_, inv.step_cause_legal h⟩
  · exact ⟨by simpa [rst] using err, by simpa [rst, causeNone] using cause⟩
  · have now : s.causeNow = some causeRsvdCmd := by simp [State.causeNow, errorCauseOf, acc]
    exact ⟨by simpa [rst, now] using err, by simpa [rst, e, now, causeRsvdCmd] using cause⟩
  · have now : s.causeNow = some causeOverrun := by simp [State.causeNow, errorCauseOf, acc, d]
    exact ⟨by simpa [rst, now] using err, by simpa [rst, e, now, causeOverrun] using cause⟩
  · obtain e | ⟨no_rsvd, no_overrun⟩ := kept
    · exact ⟨by simpa [rst, e] using err, by simpa [rst, e] using cause⟩
    · have now : s.causeNow = none := by
        obtain ⟨now, -⟩ | ⟨-, acc⟩ | ⟨-, acc, d⟩ := s.causeNow_cases
        · exact now
        · exact absurd acc no_rsvd
        · simp [acc, d] at no_overrun
      exact ⟨by simpa [rst, now] using err, by simpa [rst, now] using cause⟩

/-- Settles O34: the rule for STATE at an edge, read in each of its cases. -/
theorem whatWritesState : Obligations.WhatWritesState := by
  intro s t live h
  obtain ⟨-, running⟩ := State.live_eq_true.mp live
  have state := step_state running h
  refine ⟨fun rst => ?_, fun acc => ?_, fun rst v2 => ?_, fun rst v2 acc => ?_, t.outData_toNat⟩
  · simpa [rst, seed] using state
  · obtain ⟨rst, -, v2⟩ := rst_v1_v2_of_accepted acc
    simpa [rst, v2, acc, seed] using state
  · simpa [rst, v2] using state
  · simpa [rst, v2, acc] using state

/-- Settles O35: the rule for COUNT at an edge, read in each of its cases; the invariant makes a write-back exact. -/
theorem whatWritesCount : Obligations.WhatWritesCount := by
  intro s t inv seq h
  have count := step_count inv.running h
  refine ⟨fun rst => ?_, fun acc => ?_, fun rst v2 => ?_, fun rst v2 acc => ?_, inv.step_count_le h⟩
  · simpa [rst] using count
  · obtain ⟨rst, -, v2⟩ := rst_v1_v2_of_accepted acc
    simpa [rst, v2, acc] using count
  · have count_succ : t.count.toNat = s.count.toNat + 1 := by
      simpa [rst, v2, (inv.count_writeBack v2).1] using congrArg BitVec.toNat count
    obtain ⟨emits, value⟩ := writeBack_emits_sequence inv seq h rst v2
    exact ⟨count_succ, t.outData, emits, by simpa [count_succ] using value⟩
  · simpa [rst, v2, acc] using count

/-- Settles O22: the reset values are the fields of `State.reset`, and a block after reset shows them. -/
theorem resetValuesAndPorts : Obligations.ResetValuesAndPorts :=
  ⟨rfl, rfl, rfl, rfl, rfl, rfl, rfl, rfl, rfl, fun b pins legal rst =>
    State.observe_resetRegisters (s := { State.reset with build := b, pins := pins }) legal rst⟩

/-- Settles O28: the rule for OUT_VALID at an edge, and where the ports show it. -/
theorem outValidIsTheWriteBackPulse : Obligations.OutValidIsTheWriteBackPulse := by
  intro s live
  obtain ⟨-, running⟩ := State.live_eq_true.mp live
  obtain ⟨t, h⟩ := step_total_of_live live
  exact ⟨t, h, step_outValid running h, rfl, t.status_getLsbD 3⟩

/-- Settles O36: COUNT is 0 after reset and after RESTART, and `N_ELEMS` is not. -/
theorem doneComparesCountWithNElems : Obligations.DoneComparesCountWithNElems :=
  ⟨State.done_eq_true, fun _ legal =>
    ⟨State.done_of_count_zero legal rfl, _, rfl, State.done_of_count_zero legal rfl⟩⟩

/-- Settles O38: STATE has 31 bits, the status word's top 24 are written as 0, and the constants are those of R3. -/
theorem hardwiredBitsAndConstants : Obligations.HardwiredBitsAndConstants :=
  ⟨fun s => ⟨by simp [State.ports, State.outData], s.status_reserved⟩, rfl, rfl, rfl⟩

end Sys2Proof.Machine
end

section
/-! PROOFS. The family 30_encoding.md: the codes a command stream presents, an edge by whether it accepts a command, and
the statements read off these rules. -/

namespace Sys2Proof.Machine

/-! ### The codes of expanded lines (30_encoding.md R58, R59) -/

@[simp] theorem codesOf_present_cons (code : CmdCode) (actions : List Action) :
    codesOf (.present code :: actions) = code :: codesOf actions := rfl

/-- Presenting one code `k` times shows that code `k` times. -/
theorem codesOf_replicate_present (k : Nat) (code : CmdCode) :
    codesOf (List.replicate k (.present code)) = List.replicate k code := by
  induction k with
  | zero => rfl
  | succ k ih => rw [List.replicate_succ, codesOf_present_cons, ih, List.replicate_succ]

/-- The codes of `GEN k` are those of `k` lines `STEP` (R59). -/
theorem codesOf_expand_gen (b : Config.Build) (k : Nat) :
    codesOf ((Line.gen k).expand b) = List.replicate k 0b01#2 :=
  codesOf_replicate_present k (encode .step)

/-- `RUN` is the line `RESTART` and then the line `GEN N_ELEMS` (R59). -/
theorem expand_run (b : Config.Build) :
    Line.run.expand b = (Line.mnemonic .restart).expand b ++ (Line.gen b.nElems).expand b := rfl

/-! ### An edge of a live block, by whether it accepts a command (R52) -/

@[simp] theorem State.drive_nextInputs (s : State) (p : Pins) : (s.drive p).nextInputs = s.nextInputs := rfl

@[simp] theorem State.drive_live (s : State) (p : Pins) : (s.drive p).live = s.live := rfl

/-- `cmd_ready` reads `rst`, and neither `cmd_valid` nor `cmd` (R52). -/
theorem State.drive_cmdReady {s : State} {p : Pins} (rst : p.rst = s.inputNow.rst) :
    (s.drive p).cmdReady = s.cmdReady := by
  simp [State.cmdReady, rst]

section Live
variable {s : State} (live : s.live = true)
include live

/-- An edge with `cmd_valid = 1` and `cmd_ready = 1` runs the decoded command (R52). -/
theorem step_of_cmdReady (valid : s.inputNow.cmdValid = true) (ready : s.cmdReady = true) :
    step s = exec (decode s.inputNow.cmd) s.nextInputs := by
  obtain ⟨legal, running⟩ := State.live_eq_true.mp live
  obtain ⟨busy, rst⟩ : s.busy = false ∧ s.inputNow.rst = false := by simpa [State.cmdReady] using ready
  simp [step_of_running legal running, valid, busy, rst]

/-- Any other edge is the reset or the pipeline's own advance (R52, 70_reset_and_hazards.md R110, R120). -/
theorem step_of_not_accepted (h : s.inputNow.cmdValid = false ∨ s.cmdReady = false) :
    step s = .next (if s.inputNow.rst then s.nextInputs.resetRegisters else advance s.nextInputs) := by
  obtain ⟨legal, running⟩ := State.live_eq_true.mp live
  rw [step_of_running legal running]
  cases rst : s.inputNow.rst with
  | true => rfl
  | false =>
    have not_accepted : (s.inputNow.cmdValid && !s.busy) = false := by
      simpa [State.cmdReady, rst, or_iff_not_imp_left] using h
    simp [not_accepted]

/-- Two pin settings that agree on `rst`, neither of which has a command accepted, make the same step (R52). -/
theorem step_drive_of_not_accepted {p : Pins} (rst : p.rst = s.inputNow.rst)
    (here : s.inputNow.cmdValid = false ∨ s.cmdReady = false) (there : p.cmdValid = false ∨ s.cmdReady = false) :
    step (s.drive p) = step s := by
  have not_accepted : (s.drive p).inputNow.cmdValid = false ∨ (s.drive p).cmdReady = false := by
    rwa [State.drive_inputNow, State.drive_cmdReady rst]
  rw [step_of_not_accepted ((s.drive_live p).trans live) not_accepted, step_of_not_accepted live here,
    State.drive_inputNow, State.drive_nextInputs, rst]

end Live

/-! ### The statements -/

/-- Settles O1: each row of the command map, read in both directions. -/
theorem commandCodesOfTheMap : Obligations.CommandCodesOfTheMap :=
  ⟨rfl, rfl, rfl, rfl, rfl, rfl, rfl, rfl⟩

/-- Settles O4: the two kinds of edge, accepting and not; where none accepts, only `rst` is read. -/
theorem handshakeDecidesAcceptance : Obligations.HandshakeDecidesAcceptance := by
  intro s live
  refine ⟨rfl, step_of_cmdReady live, fun h => ⟨step_of_not_accepted live h, fun code => ?_⟩,
    fun not_ready valid code => ?_⟩
  · exact step_drive_of_not_accepted live rfl h h
  · exact step_drive_of_not_accepted live rfl (.inr not_ready) (.inr not_ready)

/-- Settles O6: the expansions, and the codes they present. -/
theorem pseudoInstructionsExpand : Obligations.PseudoInstructionsExpand := by
  intro b k
  refine ⟨rfl, expand_run b, codesOf_expand_gen b k, ?_⟩
  calc codesOf (Line.run.expand b)
      = encode .restart :: codesOf ((Line.gen b.nElems).expand b) := codesOf_present_cons _ _
    _ = 0b10#2 :: List.replicate b.nElems 0b01#2 := by rw [codesOf_expand_gen, encode]

end Sys2Proof.Machine
end

section
/-! PROOFS. The family 40_step.md: the three edges of an accepted STEP, the invariant `BlockInv` at one edge and along
runs of edges, and the statements read off these rules. -/

namespace Sys2Proof.Machine

/-! ### The recurrence and the datapath (40_step.md R66, R69 to R74) -/

/-- "`P[63:47] = 0` always" (R70). -/
theorem multiply_lt (x : StateWord) : (multiply x).toNat < 2 ^ 47 := by
  have := x.isLt
  rw [multiply_toNat]
  unfold multiplier
  omega

/-- The three stages one after another give the exact residue, for every STATE (R74). -/
theorem datapath_toNat (x : StateWord) :
    (subtractOnce (foldProduct (multiply x))).toNat = x.toNat * multiplier % modulus := by
  rw [← multiply_toNat]
  exact subtractOnce_of_fold (multiply_lt x) (foldProduct_toNat (fold_fits (multiply_lt x)))

/-- The residue is below the modulus (R69). -/
theorem successor_lt (x : Nat) : successor x < modulus := Nat.mod_lt _ (by decide)

/-- SEED lies in [1, M − 1] (10_state.md R22). -/
theorem seed_range : 1 ≤ seed.toNat ∧ seed.toNat < modulus := by decide

/-- The recurrence leaves 0 out: the modulus and the multiplier have no common factor (R69). -/
theorem successor_pos {x : Nat} (pos : 1 ≤ x) (lt : x < modulus) : 1 ≤ successor x := by
  refine Nat.pos_of_ne_zero fun zero => ?_
  have coprime : Nat.Coprime modulus multiplier := by norm_num [modulus, multiplier]
  have divides : modulus ∣ x := coprime.dvd_of_dvd_mul_right (Nat.dvd_of_mod_eq_zero zero)
  exact absurd (Nat.le_of_dvd pos divides) (Nat.not_le.mpr lt)

/-! ### What the issuer drives at the coming edges -/

/-- Every step moves the issuer on by one edge. -/
theorem step_pins {s t : State} (h : step s = .next t) : t.pins = s.pins.tail := by
  obtain ⟨-, ⟨-, rfl⟩ | ⟨-, -, n, -, rfl⟩ | ⟨-, -, -, -, e⟩ | ⟨-, -, -, rfl⟩⟩ := step_cases h
  · simp
  · simp
  · obtain ⟨-, rfl⟩ | ⟨-, -, rfl⟩ | ⟨-, -, rfl⟩ | ⟨-, rfl⟩ | ⟨-, rfl⟩ := exec_cases e <;> simp
  · obtain ⟨-, -, e⟩ | ⟨-, -, e⟩ | ⟨-, -, e⟩ | ⟨-, -, e⟩ := advance_cases s.nextInputs <;> simp [e]

/-- No reset among `k + 1` edges: none at the first, and none among the `k` after it. -/
theorem State.noReset_succ (k : Nat) (s : State) :
    s.noReset (k + 1) = (!s.inputNow.rst && s.nextInputs.noReset k) := by
  cases p : s.pins with
  | nil => simp [State.inputNow, State.noReset, Pins.idle, p]
  | cons now later => simp [State.inputNow, State.noReset, p]

/-- No reset among the coming edges: none at the next. -/
theorem State.rst_of_noReset {k : Nat} {s : State} (h : s.noReset (k + 1) = true) : s.inputNow.rst = false := by
  simp_all [State.noReset_succ]

/-- After a step, one edge fewer is known to be free of resets. -/
theorem noReset_of_step {k : Nat} {s t : State} (e : step s = .next t) (h : s.noReset (k + 1) = true) :
    t.noReset k = true := by
  have later : s.nextInputs.noReset k = true := by simp_all [State.noReset_succ]
  rwa [State.noReset, step_pins e]

/-! ### The three edges of an accepted STEP (70_reset_and_hazards.md R114 to R118) -/

section Live
variable {s : State} (live : s.live = true)
include live

/-- A live block stays so at every edge. -/
theorem live_of_step {t : State} (h : step s = .next t) : t.live = true := by
  obtain ⟨legal, running⟩ := State.live_eq_true.mp live
  exact State.live_eq_true.mpr ⟨step_build h ▸ legal, step_phase running h⟩

/-- An edge that accepts a command performs it (30_encoding.md R52). -/
theorem step_of_accepted {i : Instr} (acc : s.acceptedNow = some i) : step s = exec i s.nextInputs := by
  obtain ⟨valid, busy, rst, rfl⟩ := acceptedNow_eq_some.mp acc
  exact step_of_cmdReady live valid (by simp [State.cmdReady, busy, rst])

/-- At an edge with a STEP in flight the pipeline advances, whatever the issuer presents (R118). -/
theorem step_of_busy (busy : s.busy = true) (rst : s.inputNow.rst = false) :
    step s = .next (advance s.nextInputs) := by
  rw [step_of_not_accepted live (.inr (by simp [State.cmdReady, busy])), rst]
  rfl

/-- The acceptance edge of a STEP that is no overrun loads the product (R114). -/
theorem step_of_accepted_step (acc : s.acceptedNow = some .step) (not_done : s.done = false) :
    ∃ t, step s = .next t ∧
      t = { s with outValid := false, v1 := true, prod := multiply s.state, pins := s.pins.tail } := by
  rw [step_of_accepted live acc]
  obtain ⟨done, -⟩ | ⟨-, e⟩ := execStep_cases s.nextInputs
  · exact absurd done (by simp [not_done])
  · exact ⟨_, e, rfl⟩

/-- The edge after it folds the product (R115). -/
theorem step_of_stageOne (v1 : s.v1 = true) (v2 : s.v2 = false) (rst : s.inputNow.rst = false) :
    ∃ t, step s = .next t ∧
      t = { s with outValid := false, v1 := false, v2 := true, fold := foldProduct s.prod, pins := s.pins.tail } := by
  have stages : advance s.nextInputs = s.nextInputs.dropOutValid.loadFold := by
    simp [advance, stageThree, stageTwo, v1, v2]
  exact ⟨_, step_of_busy live (by simp [State.busy, v1]) rst, stages⟩

/-- The edge after that writes back (R116). -/
theorem step_of_stageTwo (v1 : s.v1 = false) (v2 : s.v2 = true) (rst : s.inputNow.rst = false) :
    ∃ t, step s = .next t ∧
      t = { s with
            state := subtractOnce s.fold, count := assign 32 (s.count.toNat + 1), outValid := true, v2 := false,
            pins := s.pins.tail } := by
  have stages : advance s.nextInputs = s.nextInputs.writeBack := by
    simp [advance, stageThree, stageTwo, v1, v2]
  exact ⟨_, step_of_busy live (by simp [State.busy, v2]) rst, stages⟩

/-- An accepted STEP that is no overrun passes through the three stages at three edges with no reset among them. Each
state it passes through is `s` with the registers it has changed by then. -/
theorem three_edges_of_accepted_step (acc : s.acceptedNow = some .step) (not_done : s.done = false)
    (no_reset : s.noReset 3 = true) :
    ∃ t₁ t₂ t₃ : State, step s = .next t₁ ∧ step t₁ = .next t₂ ∧ step t₂ = .next t₃ ∧
      t₁ = { s with outValid := false, v1 := true, prod := multiply s.state, pins := s.pins.tail } ∧
      t₂ = { s with
             outValid := false, v1 := false, prod := multiply s.state, v2 := true,
             fold := foldProduct (multiply s.state), pins := s.pins.tail.tail } ∧
      t₃ = { s with
             state := subtractOnce (foldProduct (multiply s.state)), count := assign 32 (s.count.toNat + 1),
             outValid := true, v1 := false, prod := multiply s.state, v2 := false,
             fold := foldProduct (multiply s.state), pins := s.pins.tail.tail.tail } := by
  obtain ⟨-, -, v2⟩ := rst_v1_v2_of_accepted acc
  obtain ⟨t₁, h₁, e₁⟩ := step_of_accepted_step live acc not_done
  have no_reset₁ := noReset_of_step h₁ no_reset
  have live₁ := live_of_step live h₁
  obtain ⟨t₂, h₂, e₂⟩ := step_of_stageOne live₁ (by rw [e₁]) (by rw [e₁, v2]) (State.rst_of_noReset no_reset₁)
  have no_reset₂ := noReset_of_step h₂ no_reset₁
  have live₂ := live_of_step live₁ h₂
  obtain ⟨t₃, h₃, e₃⟩ := step_of_stageTwo live₂ (by rw [e₂]) (by rw [e₂]) (State.rst_of_noReset no_reset₂)
  rw [e₁] at e₂
  rw [e₂] at e₃
  exact ⟨t₁, t₂, t₃, h₁, h₂, h₃, e₁, e₂, e₃⟩

end Live

/-- A block has emitted nothing where OUT_VALID = 0 (10_state.md R31, 40_step.md R73). -/
theorem State.emitted_of_not_outValid {s : State} (hv : s.outValid = false) : s.emitted = none := by
  cases hp : s.phase <;> simp [State.emitted, hp, hv]

/-! ### The invariant, kept by each update where an edge makes it -/

namespace BlockInv
variable {s : State}

/-- The issuer is no part of the invariant. -/
theorem nextInputs_keeps (inv : BlockInv s) : BlockInv s.nextInputs := { inv with }

/-- The fall of OUT_VALID (70_reset_and_hazards.md R117). -/
theorem dropOutValid_keeps (inv : BlockInv s) : BlockInv s.dropOutValid :=
  { inv with pulse := fun valid => Bool.noConfusion valid }

/-- Recording one of the two causes that exist (60_exceptions.md R96, R97). -/
theorem recordError_keeps {c : CauseWord} (inv : BlockInv s) (not_none : c ≠ causeNone) (legal : c.toNat ≤ 2) :
    BlockInv (recordError c s) := by
  obtain ⟨-, e⟩ | ⟨-, e⟩ := recordError_cases c s
  · rwa [e]
  · rw [e]
    exact { inv with cause_none := by simp [not_none], cause_legal := legal }

/-- The start of a run, in a block with nothing in flight (41_control.md R86). -/
theorem startRun_keeps (inv : BlockInv s) (busy : s.busy = false) (low : s.outValid = false) :
    BlockInv s.startRun := by
  obtain ⟨v1, v2⟩ := s.busy_eq_false.mp busy
  exact { inv with
    state_pos := seed_range.1
    state_lt := seed_range.2
    count_le := Nat.zero_le _
    stage_one := by simp [v1]
    stage_two := by simp [v2]
    pulse := by simp [low] }

/-- Stage 1 takes a STEP that is no overrun (70_reset_and_hazards.md R114). -/
theorem loadProduct_keeps (inv : BlockInv s) (busy : s.busy = false) (low : s.outValid = false)
    (not_done : s.done = false) : BlockInv s.loadProduct := by
  obtain ⟨-, v2⟩ := s.busy_eq_false.mp busy
  have count_lt : s.count.toNat < s.build.nElems :=
    Nat.lt_of_le_of_ne inv.count_le (by simpa [State.done] using not_done)
  exact { inv with
    one_in_flight := by simp [v2]
    stage_one := fun _ => ⟨multiply_toNat s.state, count_lt⟩
    prod_lt := multiply_lt s.state
    pulse := by simp [low] }

/-- Stage 2 takes the STEP in stage 1 (R115). -/
theorem loadFold_keeps (inv : BlockInv s) (v1 : s.v1 = true) (low : s.outValid = false) : BlockInv s.loadFold := by
  obtain ⟨product, count_lt⟩ := inv.stage_one v1
  have fold := foldProduct_toNat (fold_fits inv.prod_lt)
  have fold_le : (foldProduct s.prod).toNat ≤ 2147531917 := by
    have := inv.state_lt
    rw [fold, product]
    unfold multiplier
    unfold modulus at this
    omega
  exact { inv with
    one_in_flight := by simp
    stage_one := by simp
    stage_two := fun _ => ⟨product ▸ fold, count_lt⟩
    fold_le := fold_le
    pulse := by simp [low] }

/-- Stage 3 writes back the successor of STATE, which is not 0 (R116, 40_step.md R69). -/
theorem writeBack_keeps (inv : BlockInv s) (v2 : s.v2 = true) : BlockInv s.writeBack := by
  have v1 : s.v1 = false := by simpa [v2] using inv.one_in_flight
  have state := inv.subtractOnce_fold v2
  obtain ⟨count, count_le⟩ := inv.count_writeBack v2
  exact { inv with
    state_pos := state ▸ successor_pos inv.state_pos inv.state_lt
    state_lt := state ▸ successor_lt _
    count_le := count ▸ count_le
    one_in_flight := by simp
    stage_one := by simp [v1]
    stage_two := by simp
    pulse := fun _ => ⟨by simp [State.busy, v1], by simp [count]⟩ }

/-- A reset edge of a build that exists begins the invariant anew, whatever the registers held (R110). -/
theorem of_resetRegisters (legal : s.build.legal = true) : BlockInv s.resetRegisters where
  build_legal := legal
  running := rfl
  state_pos := seed_range.1
  state_lt := seed_range.2
  count_le := Nat.zero_le _
  cause_none := by simp
  cause_legal := Nat.zero_le _
  one_in_flight := by simp
  stage_one := by simp
  stage_two := by simp
  prod_lt := by simp
  fold_le := Nat.zero_le _
  pulse := by simp

/-! ### The invariant at an edge -/

/-- A command accepted by a block with nothing in flight keeps the invariant. -/
theorem exec_keeps {i : Instr} {t : State} (inv : BlockInv s) (busy : s.busy = false) (h : exec i s = .next t) :
    BlockInv t := by
  obtain ⟨-, rfl⟩ | ⟨-, -, rfl⟩ | ⟨-, not_done, rfl⟩ | ⟨-, rfl⟩ | ⟨-, rfl⟩ := exec_cases h
  · exact inv.dropOutValid_keeps
  · exact inv.dropOutValid_keeps.recordError_keeps (by decide) (by decide)
  · exact inv.dropOutValid_keeps.loadProduct_keeps busy rfl not_done
  · exact inv.dropOutValid_keeps.startRun_keeps busy rfl
  · exact inv.dropOutValid_keeps.recordError_keeps (by decide) (by decide)

/-- The pipeline's own advance keeps the invariant; at most one of its stages writes. -/
theorem advance_keeps (inv : BlockInv s) : BlockInv (advance s) := by
  obtain ⟨-, -, e⟩ | ⟨v1, -, e⟩ | ⟨-, v2, e⟩ | ⟨v1, v2, -⟩ := advance_cases s
  · exact e ▸ inv.dropOutValid_keeps
  · exact e ▸ inv.dropOutValid_keeps.loadFold_keeps v1 rfl
  · exact e ▸ inv.writeBack_keeps v2
  · exact absurd ⟨v1, v2⟩ inv.one_in_flight

/-- Every edge keeps the invariant. -/
theorem step_keeps {t : State} (inv : BlockInv s) (h : step s = .next t) : BlockInv t := by
  obtain ⟨-, -, rfl⟩ | ⟨i, acc, e⟩ | ⟨-, -, rfl⟩ := step_cases_of_running inv.running h
  · exact of_resetRegisters inv.build_legal
  · obtain ⟨-, busy, -⟩ := acceptedNow_eq_some.mp acc
    exact inv.nextInputs_keeps.exec_keeps busy e
  · exact inv.nextInputs_keeps.advance_keeps

/-- A state that meets the invariant is past its first reset, in a build that exists. -/
theorem live (inv : BlockInv s) : s.live = true := State.live_eq_true.mpr ⟨inv.build_legal, inv.running⟩

end BlockInv

/-! ### Runs of edges from a state that meets the invariant -/

/-- A property of the block and its history that every edge keeps holds after any number of edges; none of them is
refused, and the block's own invariant holds at the end. -/
theorem runEdges_keeps {P : State → History → Prop}
    (keeps : ∀ {s t : State} {h : History}, BlockInv s → step s = .next t → P s h → P t (h.extend s t))
    (k : Nat) {s : State} {h : History} (inv : BlockInv s) (holds : P s h) :
    ∃ (t : State) (h' : History), runEdges k s h = .next (t, h') ∧ BlockInv t ∧ P t h' := by
  induction k generalizing s h with
  | zero => exact ⟨s, h, rfl, inv, holds⟩
  | succ k ih =>
    obtain ⟨t, e⟩ := step_total_of_live inv.live
    rw [runEdges_succ k h e]
    exact ih (inv.step_keeps e) (keeps inv e holds)

/-- Every value emitted so far lies in [1, M − 1] (40_step.md R69). -/
def History.EmitsNonzeroResidues (h : History) : Prop := ∀ v ∈ h.emitted, 1 ≤ v.toNat ∧ v.toNat < modulus

/-- What a block that meets the invariant has just emitted is its STATE, so it lies in [1, M − 1]. -/
theorem BlockInv.emitted_range {s : State} {v : PortWord} (inv : BlockInv s) (emits : s.emitted = some v) :
    1 ≤ v.toNat ∧ v.toNat < modulus := by
  cases valid : s.outValid with
  | false => simp [State.emitted_of_not_outValid valid] at emits
  | true =>
    obtain rfl : s.outData = v := by simpa [State.emitted_of_outValid inv.running valid] using emits
    simpa using And.intro inv.state_pos inv.state_lt

/-- An edge adds to the history at most the value it emits; a reset edge begins it anew. -/
theorem History.EmitsNonzeroResidues.extend {s t : State} {h : History} (inv : BlockInv s) (e : step s = .next t)
    (residues : h.EmitsNonzeroResidues) : (h.extend s t).EmitsNonzeroResidues := by
  intro v mem
  cases rst : s.inputNow.rst with
  | true => simp [History.extend, rst] at mem
  | false =>
    obtain before | now : v ∈ h.emitted ∨ t.emitted = some v := by simpa [History.extend, rst] using mem
    · exact residues v before
    · exact (inv.step_keeps e).emitted_range now

/-! ### The statements -/

/-- Settles O30: the three edges of an accepted STEP, and what the last of them leaves in each register. -/
theorem acceptedStepAdvancesTheRecurrence : Obligations.AcceptedStepAdvancesTheRecurrence := by
  intro s live acc count_lt no_reset
  obtain ⟨legal, running⟩ := State.live_eq_true.mp live
  obtain ⟨-, nElems_le⟩ := buildLegal_eq_true.mp legal
  have not_done : s.done = false := by simpa [State.done] using Nat.ne_of_lt count_lt
  obtain ⟨t₁, t₂, t₃, h₁, h₂, h₃, e₁, e₂, e₃⟩ := three_edges_of_accepted_step live acc not_done no_reset
  have running₃ : t₃.phase = .running := step_phase (step_phase (step_phase running h₁) h₂) h₃
  have pins : s.pins.tail.tail.tail = s.pins.drop 3 := by simp only [← List.drop_one, List.drop_drop]
  refine ⟨t₁, t₂, t₃, h₁, h₂, h₃, ?_, ?_, ?_, ?_, ?_, ?_, ?_, ?_⟩
  · simpa [e₃, multiplier, modulus] using datapath_toNat s.state
  · simpa [e₃] using assign_toNat (w := 32) (v := s.count.toNat + 1) (by omega)
  · exact State.emitted_of_not_outValid (by rw [e₁])
  · exact State.emitted_of_not_outValid (by rw [e₂])
  · exact State.emitted_of_outValid running₃ (by rw [e₃])
  · simp [e₁, State.arch]
  · simp [e₂, State.arch]
  · rw [e₃, pins]

/-- Settles O44: the invariant bounds STATE at every edge, and so what each write-back emits. -/
theorem emittedValuesAreNonzeroResidues : Obligations.EmittedValuesAreNonzeroResidues := by
  intro k s inv
  have none_yet : s.history.EmitsNonzeroResidues := by simp [History.EmitsNonzeroResidues, State.history]
  obtain ⟨t, h, run, inv', residues⟩ :=
    runEdges_keeps (P := fun _ h => h.EmitsNonzeroResidues) History.EmitsNonzeroResidues.extend k inv none_yet
  exact ⟨t, h, run, inv'.state_pos, Nat.le_pred_of_lt inv'.state_lt, fun v mem =>
    (residues v mem).imp_right Nat.le_pred_of_lt⟩

end Sys2Proof.Machine
end

section
/-! PROOFS. The family 41_control.md: what recording an error and a single-edge command leave, and the statements read off
these rules. -/

namespace Sys2Proof.Machine

/-! ### Recording an error (60_exceptions.md R97) -/

/-- A later error changes nothing: the first cause stands (R97). -/
theorem recordError_of_err (c : CauseWord) {s : State} (err : s.err = true) : recordError c s = s := by
  obtain ⟨-, e⟩ | ⟨no_err, -⟩ := recordError_cases c s
  · exact e
  · exact absurd err (by simp [no_err])

@[simp] theorem recordError_busy (c : CauseWord) (s : State) : (recordError c s).busy = s.busy := by
  simp [State.busy]

/-! ### Commands that complete at their acceptance edge (70_reset_and_hazards.md R119) -/

/-- The reserved code records cause 1 where no error was recorded, and lets OUT_VALID fall (41_control.md R87). -/
theorem exec_rsvd_frame (s : State) :
    exec .rsvd s = .next { s with err := true, cause := if s.err then s.cause else causeRsvdCmd, outValid := false } :=
  congrArg Host.Outcome.next (recordError_frame causeRsvdCmd s.dropOutValid)

/-- Only a STEP that is no overrun enters the pipeline (R119). -/
theorem exec_busy_of_single_edge {i : Instr} {s t : State} (h : exec i s = .next t)
    (single : i ≠ .step ∨ s.done = true) : t.busy = s.busy := by
  obtain ⟨-, rfl⟩ | ⟨-, -, rfl⟩ | ⟨is_step, not_done, -⟩ | ⟨-, rfl⟩ | ⟨-, rfl⟩ := exec_cases h
  · exact s.dropOutValid_busy
  · simp
  · simp [is_step, not_done] at single
  · rfl
  · simp

/-- With no STEP in flight only `rst` holds `cmd_ready` down (30_encoding.md R52). -/
theorem State.cmdReady_of_not_busy {s : State} (busy : s.busy = false) : s.cmdReady = !s.inputNow.rst := by
  simp [State.cmdReady, busy]

/-- A block is ready again right after the acceptance edge of a single-edge command (R119). -/
theorem ready_after_single_edge {i : Instr} {s : State} (live : s.live = true) (acc : s.acceptedNow = some i)
    (single : i ≠ .step ∨ s.done = true) :
    ∃ t, step s = .next t ∧ t.busy = false ∧ t.cmdReady = !t.inputNow.rst := by
  obtain ⟨-, not_busy, -⟩ := acceptedNow_eq_some.mp acc
  obtain ⟨t, e⟩ := exec_total i s.nextInputs
  have busy : t.busy = false := (exec_busy_of_single_edge e single).trans not_busy
  exact ⟨t, (step_of_accepted live acc).trans e, busy, State.cmdReady_of_not_busy busy⟩

/-! ### The statements -/

/-- Settles O11: NOP's whole effect is the fall of OUT_VALID, and acceptance needs an empty pipeline. -/
theorem nopChangesNoArchitecturalRegister : Obligations.NopChangesNoArchitecturalRegister := by
  refine ⟨rfl, fun s => rfl, fun s acc => ?_⟩
  obtain ⟨-, busy, -⟩ := acceptedNow_eq_some.mp acc
  exact busy

/-- Settles O14: the reserved code is `record_error(1)` at a single edge; the worked example starts at reset. -/
theorem reservedCodeIsRecorded : Obligations.ReservedCodeIsRecorded :=
  ⟨rfl, exec_rsvd_frame, fun _ live acc => ready_after_single_edge live acc (.inl (by decide)),
    fun _ c err => recordError_of_err c err, _, exec_rsvd_frame State.reset, rfl, by decide⟩

end Sys2Proof.Machine
end

section
/-! PROOFS. The family 60_exceptions.md: what an error writes, at the acceptance edge of the command that raises it, and
what clears it, read off the rules for `record_error` and for ERR and CAUSE at an edge. -/

namespace Sys2Proof.Machine

/-! ### Recording an error (60_exceptions.md R97) -/

/-- The first error since the last reset sets ERR and its cause (R97). -/
theorem recordError_of_no_err (c : CauseWord) {s : State} (no_err : s.err = false) :
    recordError c s = s.latchError c := by
  obtain ⟨err, -⟩ | ⟨-, e⟩ := recordError_cases c s
  · exact absurd no_err (by simp [err])
  · exact e

/-- OUT_VALID plays no part in recording an error, so its fall at the same edge may be taken first or last. -/
theorem recordError_dropOutValid (c : CauseWord) (s : State) :
    recordError c s.dropOutValid = (recordError c s).dropOutValid := by
  rw [recordError_frame, recordError_frame]
  rfl

/-- The reserved code performs `record_error(1)` at its acceptance edge (41_control.md R87). -/
theorem exec_rsvd (s : State) : exec .rsvd s = .next (recordError causeRsvdCmd s).dropOutValid :=
  congrArg Host.Outcome.next (recordError_dropOutValid causeRsvdCmd s)

/-- An overrun STEP performs `record_error(2)` at its acceptance edge and computes nothing (40_step.md R75). -/
theorem exec_step_of_done {s : State} (done : s.done = true) :
    exec .step s = .next (recordError causeOverrun s).dropOutValid := by
  obtain ⟨-, e⟩ | ⟨not_done, -⟩ := execStep_cases s
  · rw [← recordError_dropOutValid]
    exact e
  · exact absurd done (by simp [not_done])

/-! ### What clears an error (R99) -/

section Sticky
variable {s t : State}

/-- A reset edge clears ERR and CAUSE, whatever was recorded. -/
theorem err_cause_of_reset (hp : s.phase = .running) (h : step s = .next t) (rst : s.inputNow.rst = true) :
    t.err = false ∧ t.cause = causeNone :=
  ⟨by simpa [rst] using step_err hp h, by simpa [rst] using step_cause hp h⟩

/-- An edge that is no reset keeps a recorded error and its cause, whatever command it accepts. -/
theorem err_cause_kept (hp : s.phase = .running) (h : step s = .next t) (rst : s.inputNow.rst = false)
    (err : s.err = true) : t.err = true ∧ t.cause = s.cause :=
  ⟨by simpa [rst, err] using step_err hp h, by simpa [rst, err] using step_cause hp h⟩

end Sticky

/-! ### The statements -/

/-- Settles O18: a live block's edge answers, and the rules for ERR and CAUSE read at its `rst`. -/
theorem onlyResetClearsErrors : Obligations.OnlyResetClearsErrors := by
  intro s live
  obtain ⟨-, running⟩ := State.live_eq_true.mp live
  obtain ⟨t, h⟩ := step_total_of_live live
  exact ⟨t, h, err_cause_of_reset running h, err_cause_kept running h⟩

/-- Settles O17: the two cases of `record_error`, and the two commands that perform it at their own edge. -/
theorem recordErrorKeepsTheFirstCause : Obligations.RecordErrorKeepsTheFirstCause :=
  ⟨fun c _ => ⟨recordError_of_no_err c, recordError_of_err c⟩,
    fun s => ⟨⟨_, exec_rsvd s, rfl, rfl⟩, fun done => ⟨_, exec_step_of_done done, rfl, rfl⟩⟩⟩

end Sys2Proof.Machine
end

section
/-! PROOFS. The family 70_reset_and_hazards.md: reset edges in a row, what a single-edge command does at its acceptance
edge, the pipeline's registers at an edge, and the statements read off these rules. -/

namespace Sys2Proof.Machine

/-! ### Reset edges (70_reset_and_hazards.md R110, R111) -/

/-- The block with the issuer `k` edges further on. -/
def State.laterInputs (k : Nat) (s : State) : State := { s with pins := s.pins.drop k }

/-- After `k` edges the issuer drives entry `k` of its list (log entry 2). -/
theorem State.laterInputs_inputNow {k : Nat} {s : State} (within : k < s.pins.length) :
    (s.laterInputs k).inputNow = s.pins[k] := by
  simp [State.laterInputs, State.inputNow, List.head?_drop, within]

/-- After a reset edge the issuer is one edge further on, and nothing else of the past is left (R110). -/
theorem State.laterInputs_after_reset (k : Nat) (s : State) :
    (s.nextInputs.resetRegisters.laterInputs k).resetRegisters = (s.laterInputs (k + 1)).resetRegisters := by
  simp [State.laterInputs, State.resetRegisters, State.nextInputs]

/-- A reset edge wins over everything else, before the first reset as after it (R110, 60_exceptions.md R100). -/
theorem step_of_rst {s : State} (legal : s.build.legal = true) (rst : s.inputNow.rst = true) :
    step s = .next s.nextInputs.resetRegisters := by
  simp [step, edge, legal, rst]

/-- `cmd_ready` is 0 while `rst = 1` (R111, 30_encoding.md R52). -/
theorem State.cmdReady_of_rst {s : State} (rst : s.inputNow.rst = true) : s.cmdReady = false := by
  simp [State.cmdReady, rst]

/-- Reset edges in a row: only the last of them counts, for the issuer's place in its list (R111). -/
theorem runSteps_of_rst_held {n : Nat} {s : State} (legal : s.build.legal = true)
    (held : ∀ j ≤ n, (s.laterInputs j).inputNow.rst = true) :
    runSteps (n + 1) s = .next (s.laterInputs (n + 1)).resetRegisters := by
  have first := step_of_rst legal (held 0 (Nat.zero_le n))
  induction n generalizing s with
  | zero => exact (runSteps_succ 0 first).trans (congrArg Host.Outcome.next (State.laterInputs_after_reset 0 s))
  | succ n ih =>
    have held_later : ∀ j ≤ n, (s.nextInputs.resetRegisters.laterInputs j).inputNow.rst = true := fun j le =>
      (congrArg (·.inputNow.rst) (State.laterInputs_after_reset j s)).trans (held (j + 1) (Nat.succ_le_succ le))
    calc runSteps (n + 2) s
        = runSteps (n + 1) s.nextInputs.resetRegisters := runSteps_succ (n + 1) first
      _ = .next (s.nextInputs.resetRegisters.laterInputs (n + 1)).resetRegisters :=
        ih (s := s.nextInputs.resetRegisters) legal held_later (step_of_rst legal (held_later 0 (Nat.zero_le n)))
      _ = .next (s.laterInputs (n + 2)).resetRegisters :=
        congrArg Host.Outcome.next (State.laterInputs_after_reset (n + 1) s)

/-! ### Commands at their acceptance edge (R114, R119) -/

/-- Recording an error is the same at both levels (60_exceptions.md R97). -/
theorem recordError_arch (c : CauseWord) (s : State) : (recordError c s).arch = s.arch.recordError c := by
  cases err : s.err <;> simp [State.arch, Arch.recordError, err]

/-- A STEP that is no overrun loads the product and lets OUT_VALID fall (R114, R117). -/
theorem exec_step_of_not_done {s : State} (not_done : s.done = false) :
    exec .step s = .next s.dropOutValid.loadProduct := by
  obtain ⟨done, -⟩ | ⟨-, e⟩ := execStep_cases s
  · exact absurd done (by simp [not_done])
  · exact e

section SingleEdge
variable {i : Instr} {s t : State}

/-- A single-edge command performs its whole transaction at its acceptance edge (R119, R125). -/
theorem exec_arch_of_single_edge (h : exec i s = .next t) (single : i ≠ .step ∨ s.done = true) :
    t.arch = (transact s.build i s.arch).1 := by
  obtain ⟨rfl, rfl⟩ | ⟨rfl, done, rfl⟩ | ⟨is_step, not_done, -⟩ | ⟨rfl, rfl⟩ | ⟨rfl, rfl⟩ := exec_cases h
  · rfl
  · have overrun : s.arch.count.toNat = s.build.nElems := s.done_eq_true.mp done
    simp only [transact, overrun, if_true]
    exact recordError_arch causeOverrun s.dropOutValid
  · simp [is_step, not_done] at single
  · rfl
  · exact recordError_arch causeRsvdCmd s.dropOutValid

/-- A single-edge command leaves everything but the architectural registers and OUT_VALID as it was (R119). -/
theorem exec_frame_of_single_edge (h : exec i s = .next t) (single : i ≠ .step ∨ s.done = true) :
    t = { s with state := t.state, count := t.count, err := t.err, cause := t.cause, outValid := t.outValid } := by
  obtain ⟨-, rfl⟩ | ⟨-, -, rfl⟩ | ⟨is_step, not_done, -⟩ | ⟨-, rfl⟩ | ⟨-, rfl⟩ := exec_cases h
  · rfl
  · rw [recordError_frame]
    rfl
  · simp [is_step, not_done] at single
  · rfl
  · rw [recordError_frame]
    rfl

end SingleEdge

/-! ### The pipeline's registers under its own advance (R115, R116) -/

section Advance
variable (s : State)

@[simp] theorem advance_v1 : (advance s).v1 = false := by
  obtain ⟨h, -, e⟩ | ⟨h, -, e⟩ | ⟨h, -, e⟩ | ⟨h, -, e⟩ := advance_cases s <;> simp [e, h]

@[simp] theorem advance_fold : (advance s).fold = if s.v1 then foldProduct s.prod else s.fold := by
  obtain ⟨h, -, e⟩ | ⟨h, -, e⟩ | ⟨h, -, e⟩ | ⟨h, -, e⟩ := advance_cases s <;> simp [e, h]

end Advance

/-- A block with a STEP in flight accepts nothing, whatever is presented (R118). -/
theorem not_accepting_of_busy {s : State} (busy : s.busy = true) : s.acceptedNow = none ∧ s.cmdReady = false :=
  ⟨acceptedNow_eq_none.mpr (.inr (.inl busy)), by simp [State.cmdReady, busy]⟩

/-! ### The statements -/

/-- Settles O12: the two cases of an accepted STEP, by whether COUNT has reached `N_ELEMS`. -/
theorem stepAtItsAcceptanceEdge : Obligations.StepAtItsAcceptanceEdge := by
  refine fun s => ⟨fun below => ?_, fun full => ?_⟩
  · have not_done : s.done = false := by simpa [State.done] using below
    exact ⟨_, exec_step_of_not_done not_done, multiply_toNat s.state, rfl⟩
  · refine ⟨_, exec_step_of_done (s.done_eq_true.mpr full), ?_⟩
    rw [recordError_frame]
    rfl

/-- Settles O15: a single-edge command's transaction and frame, and that the pipeline stays empty. -/
theorem singleEdgeCommandsComplete : Obligations.SingleEdgeCommandsComplete := by
  intro s i live acc single
  obtain ⟨t, h, not_busy, ready⟩ := ready_after_single_edge live acc single
  obtain ⟨v1, v2⟩ := t.busy_eq_false.mp not_busy
  have e : exec i s.nextInputs = .next t := (step_of_accepted live acc).symm.trans h
  have arch : t.arch = (transact s.build i s.arch).1 := exec_arch_of_single_edge (s := s.nextInputs) e single
  exact ⟨t, h, arch, v1, v2, ready, exec_frame_of_single_edge (s := s.nextInputs) e single⟩

/-- Settles O23: by induction on the number of reset edges (`runSteps_of_rst_held`), then the ports after the last. -/
theorem resetMayBeHeld : Obligations.ResetMayBeHeld := by
  intro n s legal within all_rst
  have held : ∀ j ≤ n, (s.laterInputs j).inputNow.rst = true := fun j le => by
    rw [State.laterInputs_inputNow (by omega)]
    exact all_rst _ (List.mem_take_iff_getElem.mpr ⟨j, by omega, rfl⟩)
  have run : ∀ j ≤ n, runSteps (j + 1) s = .next (s.laterInputs (j + 1)).resetRegisters := fun j le =>
    runSteps_of_rst_held legal fun k k_le => held k (k_le.trans le)
  refine ⟨fun _ => State.cmdReady_of_rst (held 0 (Nat.zero_le n)), fun j lt => ?_, _, run n le_rfl, rfl, fun rst => ?_⟩
  · exact ⟨_, run j lt.le, State.cmdReady_of_rst (held (j + 1) lt), rfl⟩
  · have ready := State.cmdReady_of_not_busy (s.laterInputs (n + 1)).resetRegisters_busy
    exact ⟨by rw [ready, rst]; rfl, State.observe_resetRegisters legal rst⟩

/-- Settles O26: the pipeline's registers after an advance; where stage 2 was empty, the whole next state. -/
theorem stageTwoFolds : Obligations.StageTwoFolds := by
  intro s live rst v1 fits
  have h := step_of_busy live (by simp [State.busy, v1]) rst
  refine ⟨_, h, by simpa [v1] using foldProduct_toNat fits, advance_v1 _, fun v2 => ?_⟩
  obtain ⟨t, h', frame⟩ := step_of_stageOne live v1 v2 rst
  obtain rfl : advance s.nextInputs = t := Host.Outcome.next.inj (h.symm.trans h')
  rw [frame]
  rfl

/-- Settles O27: the rules for STATE, COUNT and OUT_VALID at a write-back; where stage 1 was empty, the whole next
state. -/
theorem stageThreeWritesBack : Obligations.StageThreeWritesBack := by
  intro s live rst v2 fold_fits count_fits
  obtain ⟨-, running⟩ := State.live_eq_true.mp live
  obtain ⟨t, h⟩ := step_total_of_live live
  have state : t.state = subtractOnce s.fold := by simpa [rst, v2] using step_state running h
  have count : t.count = assign 32 (s.count.toNat + 1) := by simpa [rst, v2] using step_count running h
  have valid : t.outValid = true := by simpa [rst, v2] using step_outValid running h
  refine ⟨t, h, state ▸ subtractOnce_toNat fold_fits, count ▸ assign_toNat count_fits, valid,
    State.emitted_of_outValid (step_phase running h) valid, fun v1 => ?_⟩
  obtain ⟨t', h', frame⟩ := step_of_stageTwo live v1 v2 rst
  obtain rfl : t = t' := Host.Outcome.next.inj (h.symm.trans h')
  rw [frame]
  rfl

/-- Settles O31: of the three edges of an accepted STEP, the first two leave it in flight and the third does not. -/
theorem interlockHoldsForTwoEdges : Obligations.InterlockHoldsForTwoEdges := by
  intro s live acc not_done no_reset
  obtain ⟨t₁, t₂, t₃, h₁, h₂, h₃, e₁, e₂, e₃⟩ := three_edges_of_accepted_step live acc not_done no_reset
  obtain ⟨none₁, held₁⟩ := not_accepting_of_busy (s := t₁) (by simp [State.busy, e₁])
  obtain ⟨none₂, held₂⟩ := not_accepting_of_busy (s := t₂) (by simp [State.busy, e₂])
  have done₃ : t₃.busy = false := by simp [State.busy, e₃]
  exact ⟨t₁, t₂, t₃, h₁, h₂, h₃, none₁, none₂, held₁, held₂, State.cmdReady_of_not_busy done₃⟩

/-- Settles O21: the reset edge, which wins over acceptance. -/
theorem resetEdgeSetsEveryRegister : Obligations.ResetEdgeSetsEveryRegister :=
  fun _ legal rst => ⟨step_of_rst legal rst, acceptedNow_eq_none.mpr (.inr (.inr rst))⟩

end Sys2Proof.Machine
end

section
/-! PROOFS. The statements of no family before this one: the codes and the ports, an issuer at the block, the period of
the recurrence, and runs of edges against the transaction level. -/

namespace Sys2Proof.Machine

/-! ### The codes (30_encoding.md R51, R53) -/

/-- Every command is read back from its code (R53). -/
@[simp] theorem decode_encode (i : Instr) : decode (encode i) = i := by
  cases i <;> rfl

/-- No bit of a code is dropped: the four codes are the codes of the four commands (R51). -/
theorem encode_decode : ∀ code : CmdCode, encode (decode code) = code := by decide

/-- A row given as one byte is the byte (log entry 11). -/
theorem decodeTableWord_byte {w : Nat} (byte : w < 256) :
    decodeTableWord 8 w = if w < 4 then some (decode (BitVec.ofNat 2 w)) else none := by
  have value : (BitVec.ofNat 8 w).toNat = w := Nat.mod_eq_of_lt byte
  have field : (BitVec.ofNat 8 w).setWidth 2 = BitVec.ofNat 2 w := by
    apply BitVec.eq_of_toNat_eq
    rw [BitVec.toNat_setWidth, value, BitVec.toNat_ofNat]
  by_cases narrow : w < 4 <;> simp [decodeTableWord, bytesOf, decodeBytes, value, field, narrow]

/-! ### The ports (10_state.md R27, R33) -/

/-- CAUSE stands above the four flags in the status word (10_state.md R27). -/
theorem State.status_cause (s : State) : s.status.extractLsb 7 4 = s.cause := by
  refine BitVec.eq_of_getLsbD_eq fun k hk => ?_
  rw [BitVec.getLsbD_extractLsb, State.status_getLsbD, if_neg (by omega), if_neg (by omega), if_neg (by omega),
    if_neg (by omega), Nat.add_sub_cancel_left]
  simpa using fun bit => BitVec.lt_of_getLsbD bit

/-- The output ports of a live block can be looked at (10_state.md R33, 70_reset_and_hazards.md R112). -/
theorem State.observe_of_live {s : State} (live : s.live = true) : s.observe = .next s.ports := by
  obtain ⟨legal, running⟩ := State.live_eq_true.mp live
  simp [State.observe, legal, running]

/-! ### An overrun at its acceptance edge (40_step.md R75) -/

/-- An overrun STEP records cause 2 where no error was recorded, and lets OUT_VALID fall. -/
theorem exec_step_of_done_frame {s : State} (done : s.done = true) :
    exec .step s =
      .next { s with err := true, cause := if s.err then s.cause else causeOverrun, outValid := false } := by
  rw [exec_step_of_done done, recordError_frame]
  rfl

/-! ### The pipeline with nothing in flight (60_exceptions.md R108) -/

/-- With both stages empty an edge without a command lets OUT_VALID fall and does nothing else. -/
theorem advance_of_not_busy {s : State} (busy : s.busy = false) : advance s = s.dropOutValid := by
  obtain ⟨v1, v2⟩ := s.busy_eq_false.mp busy
  simp [advance, stageThree, stageTwo, v1, v2]

/-! ### BUSY is lifted by the pipeline itself (30_encoding.md R61, 70_reset_and_hazards.md R118) -/

@[simp] theorem advance_v2 (s : State) : (advance s).v2 = s.v1 := by
  obtain ⟨h, h', e⟩ | ⟨h, h', e⟩ | ⟨h, h', e⟩ | ⟨h, h', e⟩ := advance_cases s <;> simp [e, h, h']

/-- One advance empties stage 1, and moves what it held to stage 2. -/
theorem advance_busy (s : State) : (advance s).busy = s.v1 := by
  simp [State.busy]

/-! ### The issuer of a command stream (30_encoding.md R58, R60) -/

section Bench
variable {r : Bench}

/-- An edge at which this issuer drives `p`, and what a live block answers there. -/
theorem tick_of_step {p : Pins} {t : State} (h : step (r.block.drive p) = .next t) :
    tick p r = .next { r with block := t, emitted := r.emitted ++ t.emitted.toList } :=
  tick_eq_next.mpr ⟨t, h, rfl⟩

/-- Waiting for BUSY = 0 without a reset is over within two edges, and checks nothing (R61). -/
theorem ticksWhileBusy_lifts {p : Pins} (rst : p.rst = false) (live : r.block.live = true) :
    ∃ u, ticksWhileBusy p 2 r = .next u ∧ u.block.busy = false ∧ u.block.live = true ∧ u.checks = r.checks := by
  cases busy : r.block.busy with
  | false => exact ⟨r, ticksWhileBusy_of_idle 2 busy, busy, live, rfl⟩
  | true =>
    have first := step_of_busy ((r.block.drive_live p).trans live) busy rst
    have live₁ := live_of_step ((r.block.drive_live p).trans live) first
    have after_one := advance_busy (r.block.drive p).nextInputs
    rw [ticksWhileBusy_of_busy 1 busy, tick_of_step first, andThen_next]
    cases v1 : r.block.v1 with
    | false => exact ⟨_, ticksWhileBusy_of_idle 1 (after_one.trans v1), after_one.trans v1, live₁, rfl⟩
    | true =>
      have second := step_of_busy ((State.drive_live _ p).trans live₁) (after_one.trans v1) rst
      have live₂ := live_of_step ((State.drive_live _ p).trans live₁) second
      rw [ticksWhileBusy_of_busy 0 (after_one.trans v1), tick_of_step second, andThen_next]
      exact ⟨_, rfl, by simp [advance_busy], live₂, rfl⟩

/-- The pipeline's own advance reads nothing of what the issuer drives. -/
theorem advance_with_pins (s : State) (pins : List Pins) :
    advance { s with pins := pins } = { advance s with pins := pins } := by
  cases v1 : s.v1 <;> cases v2 : s.v2 <;>
    simp [advance, stageThree, stageTwo, State.writeBack, State.dropOutValid, State.loadFold, v1, v2]

/-- An edge of a live block at which nothing is driven is the pipeline's own advance (R52). -/
theorem step_of_idle {s : State} (live : s.live = true) (idle : s.inputNow = Pins.idle) :
    step s = .next (advance s.nextInputs) := by
  have nothing : s.inputNow.cmdValid = false := by rw [idle]; rfl
  rw [step_of_not_accepted live (.inl nothing), idle]
  rfl

/-- An idle edge of a block whose issuer drives nothing at the next edge, with what it drives later left as it is. -/
theorem step_of_idle_cons {s : State} (live : s.live = true) (later : List Pins) :
    step { s with pins := Pins.idle :: later } = .next { advance s with pins := later } := by
  rw [step_of_idle (s := { s with pins := Pins.idle :: later }) live rfl]
  exact congrArg Host.Outcome.next (advance_with_pins s later)

/-- `k` edges at which this issuer drives nothing are `k` steps of the block whose issuer does so (R60, `@IDLE k`). -/
theorem ticks_idle (k : Nat) (live : r.block.live = true) :
    ∃ t, ticks Pins.idle k r = .next t ∧
      runSteps k { r.block with pins := List.replicate k Pins.idle ++ r.block.pins.drop k } = .next t.block ∧
      t.checks = r.checks := by
  induction k generalizing r with
  | zero => exact ⟨r, rfl, rfl, rfl⟩
  | succ k ih =>
    have first := step_of_idle_cons live r.block.pins.tail
    have live' := live_of_step (s := r.block.drive Pins.idle) live first
    have first_tick := tick_of_step (r := r) (p := Pins.idle) first
    obtain ⟨t, later, run, checks⟩ := ih (r := { r with block := _, emitted := _ }) live'
    refine ⟨t, by rw [ticks, first_tick, andThen_next, later], ?_, checks⟩
    rw [List.replicate_succ, List.cons_append, runSteps_succ k (step_of_idle_cons live _), ← run, List.drop_tail]

/-- Looking at a port of a live block notes whether it shows the value, and takes no edge (R60). -/
theorem check_of_live (port : PortName) (value : Nat) (live : r.block.live = true) :
    check port value r =
      .next { r with checks := r.checks ++ [(r.block.drive Pins.idle).ports.value port == value] } := by
  rw [check, State.observe_of_live ((State.drive_live _ _).trans live), andThen_next]

end Bench

/-! ### The period of the recurrence (40_step.md R78) -/

/-- `k` steps of the recurrence multiply by the `k`-th power of the multiplier, modulo M. -/
theorem successor_iterate_cast (k x : Nat) :
    ((successor^[k] x : Nat) : ZMod modulus) = (multiplier : ZMod modulus) ^ k * x := by
  induction k generalizing x with
  | zero => simp
  | succ k ih =>
    rw [Function.iterate_succ_apply, ih, successor, ZMod.natCast_mod, Nat.cast_mul, pow_succ]
    ring

/-- After any number of steps the value is below the modulus, if it was before. -/
theorem successor_iterate_lt {x : Nat} (lt : x < modulus) (k : Nat) : successor^[k] x < modulus := by
  cases k with
  | zero => exact lt
  | succ k =>
    rw [Function.iterate_succ_apply']
    exact successor_lt _

/-- The prime divisors of M − 1 = 2 · 3² · 7 · 11 · 31 · 151 · 331. -/
theorem prime_dvd_modulus_sub_one {q : Nat} (prime : q.Prime) (divides : q ∣ modulus - 1) :
    q = 2 ∨ q = 3 ∨ q = 7 ∨ q = 11 ∨ q = 31 ∨ q = 151 ∨ q = 331 := by
  have factors : modulus - 1 = 2 * 3 * 3 * 7 * 11 * 31 * 151 * 331 := rfl
  rw [factors] at divides
  simp only [prime.dvd_mul] at divides
  obtain (((((((h | h) | h) | h) | h) | h) | h) | h) := divides <;>
    · have is_factor := (Nat.prime_dvd_prime_iff_eq prime (by norm_num)).mp h
      omega

/-- The multiplier to the power M − 1 is 1 modulo M. -/
theorem multiplier_pow_pred : (multiplier : ZMod modulus) ^ (modulus - 1) = 1 := by
  have power : (48271 : ZMod 2147483647) ^ 2147483646 = 1 := by reduce_mod_char
  exact power

/-- No proper divisor of M − 1 is a multiple of the multiplier's order: none of the powers (M − 1) / q is 1. -/
theorem multiplier_pow_div_prime {q : Nat} (prime : q.Prime) (divides : q ∣ modulus - 1) :
    (multiplier : ZMod modulus) ^ ((modulus - 1) / q) ≠ 1 := by
  change (48271 : ZMod 2147483647) ^ (2147483646 / q) ≠ 1
  obtain rfl | rfl | rfl | rfl | rfl | rfl | rfl := prime_dvd_modulus_sub_one prime divides <;>
    · norm_num only
      reduce_mod_char
      decide

/-- M is prime, by the test of Lucas with the multiplier as the base. -/
theorem modulus_prime : modulus.Prime :=
  lucas_primality modulus multiplier multiplier_pow_pred fun _ => multiplier_pow_div_prime

/-- The multiplier's powers run through all M − 1 nonzero residues before they come back to 1 (R78). -/
theorem orderOf_multiplier : orderOf (multiplier : ZMod modulus) = modulus - 1 :=
  orderOf_eq_of_pow_and_pow_div_prime (by decide) multiplier_pow_pred fun _ => multiplier_pow_div_prime

/-- The recurrence comes back to a nonzero residue after the multiples of M − 1 steps and no other number of them: M is
prime, so the residue cancels and the power of the multiplier is 1 (R78). -/
theorem successor_iterate_eq_self_iff {k x : Nat} (pos : 1 ≤ x) (lt : x < modulus) :
    successor^[k] x = x ↔ modulus - 1 ∣ k := by
  have : Fact modulus.Prime := ⟨modulus_prime⟩
  have nonzero : (x : ZMod modulus) ≠ 0 := fun zero =>
    absurd (Nat.le_of_dvd pos ((ZMod.natCast_eq_zero_iff _ _).mp zero)) (Nat.not_le.mpr lt)
  calc successor^[k] x = x
      ↔ ((successor^[k] x : Nat) : ZMod modulus) = x := by
        rw [ZMod.natCast_eq_natCast_iff', Nat.mod_eq_of_lt (successor_iterate_lt lt k), Nat.mod_eq_of_lt lt]
    _ ↔ (multiplier : ZMod modulus) ^ k = 1 := by rw [successor_iterate_cast, mul_eq_right₀ nonzero]
    _ ↔ modulus - 1 ∣ k := by rw [← orderOf_dvd_iff_pow_eq_one, orderOf_multiplier]

/-! ### The second invariant, and the base case of both (70_reset_and_hazards.md R122) -/

/-- A reset edge puts STATE and COUNT at the start of the sequence (10_state.md R32). -/
theorem OnSequence.of_resetRegisters (s : State) : OnSequence s.resetRegisters := rfl

/-- Every edge keeps STATE at the place in the sequence that COUNT names: a write-back moves both on by one, a reset and
a RESTART take both to the start, and nothing else writes either (10_state.md R21 to R23). -/
theorem OnSequence.step_keeps {s t : State} (inv : BlockInv s) (seq : OnSequence s) (h : step s = .next t) :
    OnSequence t := by
  have state := step_state inv.running h
  have count := step_count inv.running h
  unfold OnSequence
  rw [state, count]
  split
  · rfl
  · split
    · rename_i v2
      calc (subtractOnce s.fold).toNat = successor s.state.toNat := inv.subtractOnce_fold v2
        _ = stateAfter (s.count.toNat + 1) := congrArg successor seq
        _ = stateAfter (assign 32 (s.count.toNat + 1)).toNat := by rw [(inv.count_writeBack v2).1]
    · split
      · rfl
      · exact seq

/-! ### Commands one after another at the transaction level (20_memory.md R46) -/

section Transactions
variable (b : Config.Build)

/-- Commands in two parts: the second part starts where the first ends, and emits after it. -/
theorem transactAll_append (is js : List Instr) (a : Arch) :
    transactAll b (is ++ js) a =
      ((transactAll b js (transactAll b is a).1).1,
        (transactAll b is a).2 ++ (transactAll b js (transactAll b is a).1).2) := by
  induction is generalizing a with
  | nil => rfl
  | cons i is ih => simp [transactAll, ih]

/-- One command is the atomic transition it stands for. -/
theorem transactAll_singleton (i : Instr) (a : Arch) :
    transactAll b [i] a = ((transact b i a).1, (transact b i a).2.toList) := by
  simp [transactAll]

variable {b}

/-- A STEP below N_ELEMS takes the successor of STATE, adds one to COUNT and emits the new value (40_step.md R65). -/
theorem transact_step_of_lt {a : Arch} (legal : b.legal = true) (lt : a.count.toNat < b.nElems) :
    transact b .step a =
      ({ a with
          state := BitVec.ofNat 31 (successor a.state.toNat), count := BitVec.ofNat 32 (a.count.toNat + 1) },
        some (BitVec.ofNat 32 (successor a.state.toNat))) := by
  obtain ⟨-, nElems_le⟩ := buildLegal_eq_true.mp legal
  have residue : successor a.state.toNat < 2147483647 := successor_lt _
  simp [transact, Nat.ne_of_lt lt, assign_of_lt (show successor a.state.toNat < 2 ^ 31 by omega),
    assign_of_lt (show successor a.state.toNat < 2 ^ 32 by omega),
    assign_of_lt (show a.count.toNat + 1 < 2 ^ 32 by omega)]

/-- A STEP at N_ELEMS is an overrun: it records cause 2 and emits nothing (R75). -/
theorem transact_step_of_eq {a : Arch} (full : a.count.toNat = b.nElems) :
    transact b .step a = (a.recordError causeOverrun, none) := by
  simp [transact, full]

/-- The values of the sequence fit STATE. -/
theorem stateAfter_lt (k : Nat) : stateAfter k < modulus := by
  cases k with
  | zero => exact seed_range.2
  | succ k => exact successor_lt _

/-- `k` STEPs from reset, up to N_ELEMS of them: the k-th emits `sequence[k − 1]` and leaves COUNT = k (R68). -/
theorem transactAll_steps {k : Nat} (legal : b.legal = true) (le : k ≤ b.nElems) :
    transactAll b (List.replicate k .step) Arch.reset =
      ({ state := BitVec.ofNat 31 (stateAfter k), count := BitVec.ofNat 32 k, err := false, cause := 0#4 },
        (List.range k).map fun i => BitVec.ofNat 32 (sequenceAt i)) := by
  induction k with
  | zero => rfl
  | succ k ih =>
    obtain ⟨-, nElems_le⟩ := buildLegal_eq_true.mp legal
    have state_lt : stateAfter k < 2147483647 := stateAfter_lt k
    have state : (BitVec.ofNat 31 (stateAfter k)).toNat = stateAfter k := Nat.mod_eq_of_lt (by omega)
    have count : (BitVec.ofNat 32 k).toNat = k := Nat.mod_eq_of_lt (by omega)
    rw [List.replicate_succ', transactAll_append, ih (by omega), transactAll_singleton,
      transact_step_of_lt legal (by rw [count]; omega)]
    simp [state, count, List.range_succ, sequenceAt, stateAfter]

/-- A command that leaves ERR = 0 is no reserved code, found ERR = 0, and emitted a value if it is a STEP (92 D19). -/
theorem transact_of_no_err {i : Instr} {a : Arch} (ok : (transact b i a).1.err = false) :
    a.err = false ∧ i ≠ .rsvd ∧ (transact b i a).2.toList.length = [i].count .step := by
  cases i with
  | nop => exact ⟨ok, by decide, rfl⟩
  | step =>
    by_cases full : a.count.toNat = b.nElems
    · rw [transact_step_of_eq full] at ok
      cases err : a.err <;> simp [Arch.recordError, err] at ok
    · simpa [transact, full] using ok
  | restart => exact ⟨ok, by decide, rfl⟩
  | rsvd => cases err : a.err <;> simp [transact, Arch.recordError, err] at ok

/-- Commands that leave ERR = 0 hold no reserved code and emit one value per STEP (92 D19). -/
theorem transactAll_of_no_err {is : List Instr} {a : Arch} (ok : (transactAll b is a).1.err = false) :
    a.err = false ∧ .rsvd ∉ is ∧ (transactAll b is a).2.length = is.count .step := by
  induction is generalizing a with
  | nil => exact ⟨ok, by simp, rfl⟩
  | cons i is ih =>
    obtain ⟨ok_one, no_rsvd, emitted⟩ := ih ok
    obtain ⟨ok_before, not_rsvd, emitted_one⟩ := transact_of_no_err ok_one
    refine ⟨ok_before, by simp [no_rsvd, not_rsvd.symm], ?_⟩
    rw [← List.singleton_append, List.count_append, ← emitted, ← emitted_one]
    simp [transactAll]

end Transactions

/-! ### The cycle level against the transaction level (70_reset_and_hazards.md R125) -/

/-- The architectural registers and the value still to be emitted once the STEP in flight, if there is one, has written
back: what the accepted commands come to at the transaction level. -/
def State.completed (s : State) : Arch × Option PortWord :=
  if s.busy then transact s.build .step s.arch else (s.arch, none)

/-- With nothing in flight there is nothing to complete. -/
theorem State.completed_of_not_busy {s : State} (busy : s.busy = false) : s.completed = (s.arch, none) := by
  simp [State.completed, busy]

/-- A STEP in flight is still to be taken as a whole. -/
theorem State.completed_of_busy {s : State} (busy : s.busy = true) :
    s.completed = transact s.build .step s.arch := by
  simp [State.completed, busy]

/-- The history accounts for the block: the accepted commands, each taken as one atomic transition, come to the block's
registers and the values emitted, once the STEP in flight has written back. -/
def History.AccountsFor (b : Config.Build) (h : History) (s : State) : Prop :=
  s.build = b ∧ transactAll b h.accepted h.base = (s.completed.1, h.emitted ++ s.completed.2.toList)

section Refinement
variable {s t : State}

/-- A single-edge command emits nothing (R119). -/
theorem transact_emits_nothing {i : Instr} (single : i ≠ .step ∨ s.done = true) :
    (transact s.build i s.arch).2 = none := by
  cases i with
  | nop => rfl
  | step =>
    have full : s.arch.count.toNat = s.build.nElems := s.done_eq_true.mp (by simpa using single)
    rw [transact_step_of_eq full]
  | restart => rfl
  | rsvd => rfl

/-- At its acceptance edge a command is performed, or is the STEP in flight; either way the block comes to what the
command is at the transaction level. -/
theorem exec_completed {i : Instr} (busy : s.busy = false) (h : exec i s = .next t) :
    t.completed = transact s.build i s.arch := by
  by_cases single : i ≠ .step ∨ s.done = true
  · rw [State.completed_of_not_busy ((exec_busy_of_single_edge h single).trans busy),
      exec_arch_of_single_edge h single, ← transact_emits_nothing single]
  · obtain ⟨rfl, not_done⟩ : i = .step ∧ s.done = false := by simpa using single
    obtain rfl := Host.Outcome.next.inj ((exec_step_of_not_done not_done).symm.trans h)
    exact State.completed_of_busy rfl

/-- The write-back is the STEP's transition, and OUT_VALID shows the value it emits (R116, 40_step.md R73). -/
theorem BlockInv.transact_eq_writeBack (inv : BlockInv s) (v2 : s.v2 = true) :
    transact s.build .step s.arch = (s.writeBack.arch, some s.writeBack.outData) := by
  obtain ⟨-, count_lt⟩ := inv.stage_two v2
  have residue : successor s.state.toNat < 2147483647 := successor_lt _
  have state : assign 31 (successor s.state.toNat) = subtractOnce s.fold := by
    apply BitVec.eq_of_toNat_eq
    rw [inv.subtractOnce_fold v2, assign_toNat (by omega)]
  have value : assign 32 (successor s.state.toNat) = s.writeBack.outData := by
    apply BitVec.eq_of_toNat_eq
    rw [State.outData_toNat, State.writeBack_state, inv.subtractOnce_fold v2, assign_toNat (by omega)]
  have not_full : s.arch.count.toNat ≠ s.build.nElems := Nat.ne_of_lt count_lt
  simp only [transact, not_full, if_false]
  exact Prod.ext (by simp [State.arch, state]) (congrArg some value)

/-- The pipeline's own advance changes nothing of what the block comes to: what it emits was still to be emitted. -/
theorem BlockInv.advance_completed (inv : BlockInv s) :
    (advance s).completed.1 = s.completed.1 ∧
      (advance s).emitted.toList ++ (advance s).completed.2.toList = s.completed.2.toList := by
  obtain ⟨v1, v2, e⟩ | ⟨v1, -, e⟩ | ⟨v1, v2, e⟩ | ⟨v1, v2, -⟩ := advance_cases s
  · have busy : s.busy = false := s.busy_eq_false.mpr ⟨v1, v2⟩
    rw [e, State.completed_of_not_busy busy, State.completed_of_not_busy (s := s.dropOutValid) busy,
      State.emitted_of_not_outValid rfl]
    exact ⟨rfl, rfl⟩
  · have busy : s.busy = true := by simp [State.busy, v1]
    have busy' : s.dropOutValid.loadFold.busy = true := by simp [State.busy]
    rw [e, State.completed_of_busy busy, State.completed_of_busy busy', State.emitted_of_not_outValid rfl]
    exact ⟨rfl, rfl⟩
  · have busy : s.busy = true := by simp [State.busy, v2]
    have busy' : s.writeBack.busy = false := by simp [State.busy, v1]
    rw [e, State.completed_of_busy busy, State.completed_of_not_busy busy', inv.transact_eq_writeBack v2,
      State.emitted_of_outValid (s := s.writeBack) inv.running rfl]
    exact ⟨rfl, rfl⟩
  · exact absurd ⟨v1, v2⟩ inv.one_in_flight

/-- Every edge extends the history so that it goes on accounting for the block. -/
theorem History.AccountsFor.extend {b : Config.Build} {h : History} (inv : BlockInv s) (e : step s = .next t)
    (accounts : h.AccountsFor b s) : (h.extend s t).AccountsFor b t := by
  obtain ⟨rfl, accounts⟩ := accounts
  refine ⟨step_build e, ?_⟩
  obtain ⟨rst, -, rfl⟩ | ⟨i, acc, e⟩ | ⟨rst, acc, rfl⟩ := step_cases_of_running inv.running e
  · rw [State.completed_of_not_busy (s := s.nextInputs.resetRegisters) rfl]
    simp [History.extend, rst, transactAll, State.arch, Arch.reset]
  · obtain ⟨-, busy, rst, -⟩ := acceptedNow_eq_some.mp acc
    have completed : t.completed = transact s.build i s.arch := exec_completed (s := s.nextInputs) busy e
    have silent := State.emitted_of_not_outValid (exec_outValid e)
    rw [State.completed_of_not_busy busy] at accounts
    simp [History.extend, rst, acc, transactAll_append, accounts, transactAll_singleton, completed, silent]
  · obtain ⟨arch, emitted⟩ := inv.nextInputs_keeps.advance_completed
    have same : s.nextInputs.completed = s.completed := rfl
    simp [History.extend, rst, acc, accounts, arch, emitted, same]

/-- From a state with nothing in flight any number of edges goes through, and the history accounts for the block. -/
theorem runEdges_accountsFor (k : Nat) (inv : BlockInv s) (busy : s.busy = false) :
    ∃ (t : State) (h : History), runEdges k s s.history = .next (t, h) ∧ h.AccountsFor s.build t := by
  have start : s.history.AccountsFor s.build s := ⟨rfl, by rw [State.completed_of_not_busy busy]; rfl⟩
  obtain ⟨t, h, run, -, accounts⟩ :=
    runEdges_keeps (P := fun t h => h.AccountsFor s.build t) History.AccountsFor.extend k inv start
  exact ⟨t, h, run, accounts⟩

/-- With nothing in flight, what the history accounts for is what the registers show. -/
theorem History.AccountsFor.of_not_busy {b : Config.Build} {h : History} (accounts : h.AccountsFor b s)
    (busy : s.busy = false) : transactAll b h.accepted h.base = (s.arch, h.emitted) := by
  obtain ⟨-, accounts⟩ := accounts
  simpa [State.completed_of_not_busy busy] using accounts

/-- A run of edges from and to a state with nothing in flight comes to its accepted commands, one transition each. -/
theorem transactAll_of_runEdges {k : Nat} {h : History} (inv : BlockInv s) (busy : s.busy = false)
    (run : runEdges k s s.history = .next (t, h)) (done : t.busy = false) :
    transactAll s.build h.accepted h.base = (t.arch, h.emitted) := by
  obtain ⟨t', h', run', accounts⟩ := runEdges_accountsFor k inv busy
  obtain ⟨rfl, rfl⟩ := Prod.mk.inj (Host.Outcome.next.inj (run.symm.trans run'))
  exact accounts.of_not_busy done

end Refinement

/-! ### A generation run (40_step.md R68, R80) -/

/-- The values emitted since the last reset, as long as no RESTART was accepted, are the first COUNT of the sequence. -/
def History.EmitsInOrder (h : History) (s : State) : Prop :=
  .restart ∉ h.accepted → h.emitted.map BitVec.toNat = (List.range s.count.toNat).map sequenceAt

/-- Every edge keeps the values emitted in the order of the sequence: a write-back adds the one the old COUNT names. -/
theorem History.EmitsInOrder.extend {s t : State} {h : History} (inv : BlockInv s) (seq : OnSequence s)
    (e : step s = .next t) (in_order : h.EmitsInOrder s) : (h.extend s t).EmitsInOrder t := by
  intro no_restart
  have count := step_count inv.running e
  have valid := step_outValid inv.running e
  cases rst : s.inputNow.rst with
  | true => simp [History.extend, rst, count]
  | false =>
    obtain ⟨none_before, not_now⟩ : .restart ∉ h.accepted ∧ s.acceptedNow ≠ some .restart := by
      simpa [History.extend, rst] using no_restart
    have before := in_order none_before
    cases v2 : s.v2 with
    | true =>
      obtain ⟨emits, value⟩ := writeBack_emits_sequence inv seq e rst v2
      simp [History.extend, rst, emits, value, before, count, v2, (inv.count_writeBack v2).1, List.range_succ]
    | false =>
      have silent := State.emitted_of_not_outValid (valid.trans (by simp [v2]))
      simp [History.extend, rst, silent, before, count, v2, not_now]

/-- From the start of a run any number of edges keeps the values emitted in the order of the sequence. -/
theorem runEdges_emitsInOrder {s : State} (k : Nat) (start : AtRunStart s) :
    ∃ (t : State) (h : History), runEdges k s s.history = .next (t, h) ∧
      BlockInv t ∧ OnSequence t ∧ h.EmitsInOrder t := by
  obtain ⟨inv, state, count, -⟩ := start
  have seq : OnSequence s := by rw [OnSequence, state, count]; rfl
  have none_yet : s.history.EmitsInOrder s := fun _ => by rw [count]; rfl
  exact runEdges_keeps (P := fun t h => OnSequence t ∧ h.EmitsInOrder t)
    (fun inv e holds => ⟨holds.1.step_keeps inv e, holds.2.extend inv holds.1 e⟩) k inv ⟨seq, none_yet⟩

/-! ### The statements -/

/-- Settles O42: a live block answers, and each of the three kinds of edge keeps the invariant. -/
theorem everyEdgeKeepsBlockInv : Obligations.EveryEdgeKeepsBlockInv := by
  intro s inv
  obtain ⟨t, e⟩ := step_total_of_live inv.live
  exact ⟨t, e, inv.step_keeps e⟩

/-- Settles O43: a live block answers, and each write of STATE goes with the write of COUNT that names it. -/
theorem everyEdgeKeepsOnSequence : Obligations.EveryEdgeKeepsOnSequence := by
  intro s inv seq
  obtain ⟨t, e⟩ := step_total_of_live inv.live
  exact ⟨t, e, seq.step_keeps inv e⟩

/-- Settles O45: the history accounts for the block at every edge, with what is in flight; at BUSY = 0 nothing is. -/
theorem cycleLevelRefinesTransactionLevel : Obligations.CycleLevelRefinesTransactionLevel := by
  intro k s inv busy
  obtain ⟨t, h, run, accounts⟩ := runEdges_accountsFor k inv busy
  exact ⟨t, h, run, accounts.of_not_busy⟩

/-- Settles O46: both runs come to what the transaction level makes of the same commands. -/
theorem valuesDependOnlyOnAcceptedCommands : Obligations.ValuesDependOnlyOnAcceptedCommands := by
  intro k₁ k₂ s₁ s₂ t₁ t₂ h₁ h₂ inv₁ inv₂ busy₁ busy₂ build run₁ run₂ end₁ end₂ base accepted
  have commands₁ := transactAll_of_runEdges inv₁ busy₁ run₁ end₁
  have commands₂ := transactAll_of_runEdges inv₂ busy₂ run₂ end₂
  rw [build, base, accepted, commands₂] at commands₁
  exact Prod.mk.inj commands₁.symm

/-- Settles O47: every edge keeps the values emitted in order. A reset would begin the history anew with COUNT = 0, so
the premise that there is none is not needed. -/
theorem runEmitsTheSequence : Obligations.RunEmitsTheSequence := by
  intro k s start _
  obtain ⟨t, h, run, inv, seq, in_order⟩ := runEdges_emitsInOrder k start
  refine ⟨t, h, run, fun no_restart => ⟨in_order no_restart, fun complete => ?_⟩⟩
  have full : t.count.toNat = t.build.nElems := by
    obtain ⟨done, -⟩ : t.done = true ∧ t.busy = false := by simpa [State.runComplete] using complete
    exact t.done_eq_true.mp done
  obtain ⟨pos, -⟩ := buildLegal_eq_true.mp inv.build_legal
  refine ⟨full ▸ in_order no_restart, ?_⟩
  rw [seq, full, sequenceAt, Nat.sub_add_cancel pos]

/-- Settles O7: the wait is over within two edges, and the edge after it accepts the code. -/
theorem heldCommandIsAccepted : Obligations.HeldCommandIsAccepted := by
  intro code r live
  obtain ⟨u, wait, ready, live', -⟩ := ticksWhileBusy_lifts (p := Pins.present code) rfl live
  have acc : (u.block.drive (Pins.present code)).acceptedNow = some (decode code) :=
    acceptedNow_eq_some.mpr ⟨rfl, ready, rfl, rfl⟩
  obtain ⟨t, performed⟩ := exec_total (decode code) (u.block.drive (Pins.present code)).nextInputs
  have accept := tick_of_step ((step_of_accepted ((State.drive_live _ _).trans live') acc).trans performed)
  exact ⟨u, _, wait, ready, by rw [presentUntilAccepted, wait, andThen_next, accept], performed⟩

/-- Settles O8: the three stages give the residue. -/
theorem datapathComputesTheResidue : Obligations.DatapathComputesTheResidue := datapath_toNat

/-- Settles O9: the product fits 47 bits, so its fold fits FOLD, and the difference is the residue. -/
theorem datapathNeverOverflows : Obligations.DatapathNeverOverflows := by
  intro x
  have x_lt := x.isLt
  have product : (multiply x).toNat = x.toNat * 48271 := multiply_toNat x
  have product_lt := multiply_lt x
  have fold := foldProduct_toNat (fold_fits product_lt)
  have fold_le : (foldProduct (multiply x)).toNat ≤ 2147531917 := by omega
  have residue := datapath_toNat x
  refine ⟨product, product_lt, fold, by omega, fold_le, subtractOnce_toNat (by omega), ?_⟩
  rw [residue]
  exact Nat.mod_lt _ (by decide)

/-- Settles O10: a value comes back after the multiples of M − 1 and no other number of steps. -/
theorem recurrenceHasFullPeriod : Obligations.RecurrenceHasFullPeriod := by
  refine fun x pos lt => ⟨(successor_iterate_eq_self_iff pos lt).mpr dvd_rfl, fun k k_pos k_lt returns => ?_⟩
  have divides := (successor_iterate_eq_self_iff pos lt).mp returns
  exact absurd (Nat.le_of_dvd k_pos divides) (Nat.not_le.mpr k_lt)

/-- Settles O16: the frame of an overrun names all it changes. -/
theorem overrunComputesNothing : Obligations.OverrunComputesNothing := by
  intro s live acc full
  obtain ⟨-, busy, -⟩ := acceptedNow_eq_some.mp acc
  have overrun := exec_step_of_done_frame (s := s.nextInputs) (s.done_eq_true.mpr full)
  exact ⟨_, (step_of_accepted live acc).trans overrun, rfl, rfl, rfl, rfl, busy, State.emitted_of_not_outValid rfl, rfl,
    fun no_err => if_neg (by simp [no_err]), fun err => if_pos err⟩

/-- Settles O32: by what is in flight: nothing, a STEP in stage 2 alone, or one in stage 1. -/
theorem busyIsLiftedWithinTwoEdges : Obligations.BusyIsLiftedWithinTwoEdges := by
  intro s live no_reset
  cases busy : s.busy with
  | false => exact ⟨0, s, by omega, rfl, busy⟩
  | true =>
    have first := step_of_busy live busy (State.rst_of_noReset no_reset)
    have after_one := advance_busy s.nextInputs
    cases v1 : s.v1 with
    | false => exact ⟨1, _, by omega, runSteps_succ 0 first, after_one.trans v1⟩
    | true =>
      have second := step_of_busy (live_of_step live first) (after_one.trans v1)
        (State.rst_of_noReset (noReset_of_step first no_reset))
      exact ⟨2, _, le_rfl, (runSteps_succ 1 first).trans (runSteps_succ 0 second), by simp [advance_busy]⟩

/-- Settles O33: by induction on the number of STEPs, each taking the three edges of O30. -/
theorem oneValueEveryThreeEdges : Obligations.OneValueEveryThreeEdges := by
  intro k
  induction k with
  | zero => exact fun s _ busy _ _ => ⟨s, rfl, busy, rfl, rfl⟩
  | succ k ih =>
    intro s inv busy pins room
    have presented : s.pins =
        List.replicate 3 (Pins.present 0b01#2) ++ List.replicate (3 * k) (Pins.present 0b01#2) := by
      rw [pins, List.replicate_append_replicate, Nat.mul_succ, Nat.add_comm]
    have acc : s.acceptedNow = some .step :=
      acceptedNow_eq_some.mpr (by simp [State.inputNow, presented, busy, Pins.present, List.replicate, decode])
    have no_reset : s.noReset 3 = true := by simp [State.noReset, presented, Pins.present, List.replicate]
    obtain ⟨t₁, t₂, t₃, h₁, h₂, h₃, state, count, -, -, -, -, -, frame⟩ :=
      acceptedStepAdvancesTheRecurrence s inv.live acc (by omega) no_reset
    have inv₃ : BlockInv t₃ := ((inv.step_keeps h₁).step_keeps h₂).step_keeps h₃
    have busy₃ : t₃.busy = false := by rw [frame]; rfl
    have pins₃ : t₃.pins = List.replicate (3 * k) (Pins.present 0b01#2) := by rw [frame, presented]; simp
    have build₃ : t₃.build = s.build := by rw [frame]
    obtain ⟨t, run, done, count', state'⟩ := ih t₃ inv₃ busy₃ pins₃ (by rw [build₃]; omega)
    refine ⟨t, ?_, done, by omega, ?_⟩
    · rw [Nat.mul_succ, runSteps_succ _ h₁, runSteps_succ _ h₂, runSteps_succ _ h₃, run]
    · rw [state', state]
      rfl

/-- Settles O40: STATE stays where COUNT says it is in the sequence, and `out_data` shows it. -/
theorem outDataShowsTheValueCountNames : Obligations.OutDataShowsTheValueCountNames := by
  intro k s inv seq
  obtain ⟨t, h, run, -, seq'⟩ :=
    runEdges_keeps (P := fun t _ => OnSequence t) (fun inv e seq => seq.step_keeps inv e) k inv seq
  have shows : t.ports.outData.toNat = stateAfter t.count.toNat := t.outData_toNat.trans seq'
  refine ⟨t, h, run, fun pos => ?_, fun zero => BitVec.eq_of_toNat_eq ?_⟩
  · rw [shows, sequenceAt, Nat.sub_add_cancel pos]
  · rw [shows, zero]
    rfl

/-- Settles O48: the run comes to its accepted commands at the transaction level, which leave ERR = 0. -/
theorem errorFreeRunEmitsOneValuePerStep : Obligations.ErrorFreeRunEmitsOneValuePerStep := by
  intro k s inv busy
  obtain ⟨t, h, run, accounts⟩ := runEdges_accountsFor k inv busy
  refine ⟨t, h, run, fun done no_error => ?_⟩
  have commands := accounts.of_not_busy done
  have ok : (transactAll s.build h.accepted h.base).1.err = false := by
    rw [commands]
    simpa [NoErrorRecorded, State.arch] using no_error
  obtain ⟨-, no_rsvd, emitted⟩ := transactAll_of_no_err ok
  exact ⟨no_rsvd, by rwa [commands] at emitted⟩

/-- Settles O49: the run of STEPs up to N_ELEMS, and one overrun after it. -/
theorem transactionRunProducesTheSequence : Obligations.TransactionRunProducesTheSequence := by
  intro b k legal le
  refine ⟨transactAll_steps legal le, fun full => ?_⟩
  obtain ⟨-, nElems_le⟩ := buildLegal_eq_true.mp legal
  have count : (BitVec.ofNat 32 k).toNat = b.nElems := (Nat.mod_eq_of_lt (by omega)).trans full
  rw [List.replicate_succ', transactAll_append, transactAll_steps legal le, transactAll_singleton,
    transact_step_of_eq count]
  simp [Arch.recordError, causeOverrun]

/-- Settles O50: a reset edge, idle edges, and a look at a port after the wait for BUSY = 0 where there is one. -/
theorem directivesActAndCheck : Obligations.DirectivesActAndCheck := by
  intro r live
  obtain ⟨legal, -⟩ := State.live_eq_true.mp live
  refine ⟨?_, fun k => ?_, fun port value => ⟨fun directive => ?_, fun command => ?_⟩⟩
  · have reset := tick_of_step (step_of_rst (s := r.block.drive Pins.assertReset) legal rfl)
    rw [State.emitted_of_not_outValid rfl] at reset
    refine ⟨{ r with block := r.block.nextInputs.resetRegisters, afterCommand := false }, ?_, rfl, rfl, rfl, rfl⟩
    rw [perform, reset, andThen_next]
    simp
  · obtain ⟨t, idle, run, checks⟩ := ticks_idle k live
    exact ⟨{ t with afterCommand := false }, by rw [perform, idle, andThen_next], run, checks, rfl⟩
  · rw [perform, untilComplete_of_directive directive, andThen_next, check_of_live port value live]
  · obtain ⟨u, wait, ready, live', checks⟩ := ticksWhileBusy_lifts (p := Pins.idle) rfl live
    refine ⟨u, wait, ready, ?_⟩
    rw [perform, untilComplete_of_command command, wait, andThen_next, check_of_live port value live', checks]

/-- Settles O2: both directions, by the commands and by the codes. -/
theorem decodeAndEncodeAreInverse : Obligations.DecodeAndEncodeAreInverse :=
  ⟨fun i _ => decode_encode i, encode_decode⟩

/-- Settles O3: one byte is read as the byte it is. -/
theorem tableWordsDecodeAndWiderBytesAreRefused : Obligations.TableWordsDecodeAndWiderBytesAreRefused :=
  fun _ => decodeTableWord_byte

/-- Settles O5: the placed command is presented to a ready block, and its code decodes to it. -/
theorem placedCommandRunsAtTheNextStep : Obligations.PlacedCommandRunsAtTheNextStep := by
  intro s i legal
  have live : (s.withFetchWord 8 (encode i).toNat).live = true := State.live_eq_true.mpr ⟨legal, rfl⟩
  rw [step_of_cmdReady live rfl rfl]
  have placed : (s.withFetchWord 8 (encode i).toNat).inputNow.cmd = encode i :=
    (BitVec.ofNat_toNat 2 (encode i)).trans (BitVec.setWidth_eq _)
  rw [placed, decode_encode]
  rfl

/-- Settles O13: the rules for COUNT and the build under RESTART make DONE 0; acceptance needs an empty pipeline. -/
theorem restartStartsANewRun : Obligations.RestartStartsANewRun := by
  refine ⟨rfl, fun _ => rfl, fun s t legal e => ?_, rfl, fun s acc => ?_⟩
  · exact State.done_of_count_zero (exec_build e ▸ legal) (exec_count e)
  · obtain ⟨-, busy, -⟩ := acceptedNow_eq_some.mp acc
    exact busy

/-- Settles O20: the step of a live block is total, and keeps the phase and the build. -/
theorem runningBlockNeverStops : Obligations.RunningBlockNeverStops := by
  intro s live
  obtain ⟨t, e⟩ := step_total_of_live live
  exact ⟨t, e, live_of_step live e, step_build e⟩

/-- Settles O24: the refusals before the first reset, the edge with neither, and the reset that ends the interval. -/
theorem beforeTheFirstReset : Obligations.BeforeTheFirstReset := by
  intro s n legal before
  refine ⟨?_, fun rst valid => ?_, fun rst idle => ?_, fun rst => ?_⟩
  · simp [State.observe, legal, before]
  · simp [step, edge, legal, before, rst, valid]
  · exact ⟨s.nextInputs.unspecify (n + 1), by simp [step, edge, legal, before, rst, idle], rfl, rfl, rfl⟩
  · exact ⟨State.cmdReady_of_rst rst, _, step_of_rst legal rst, State.live_eq_true.mpr ⟨legal, rfl⟩⟩

/-- Settles O25: the range of `legal`, the refusal of every other build, and that no step writes the build. -/
theorem buildIsFixedAndInRange : Obligations.BuildIsFixedAndInRange :=
  ⟨fun _ => buildLegal_eq_true, fun s illegal => by simp [step, edge, illegal], fun _ _ => step_build⟩

/-- Settles O29: an edge without acceptance is the pipeline's advance, which with both stages empty drops OUT_VALID. -/
theorem idleEdgeHoldsEveryRegister : Obligations.IdleEdgeHoldsEveryRegister := by
  intro s live rst idle busy
  rw [step_of_not_accepted live (.inl idle), rst]
  exact congrArg Host.Outcome.next (advance_of_not_busy (s := s.nextInputs) busy)

/-- Settles O37: the status word bit by bit, with its two wider fields. -/
theorem statusWordLayout : Obligations.StatusWordLayout :=
  ⟨fun s => ⟨s.status_getLsbD 0, s.status_getLsbD 1, s.status_getLsbD 2, s.status_getLsbD 3, s.status_cause,
    s.status_reserved, rfl⟩, by decide⟩

/-- Settles O39: a live block can be observed, and its ports are the registers. -/
theorem portsShowTheRegisters : Obligations.PortsShowTheRegisters := by
  intro s live
  exact ⟨s.ports, State.observe_of_live live, s.outData_toNat, rfl, rfl, s.status_getLsbD 2, s.status_cause, rfl⟩

/-- Settles O41: the state after a reset edge, whatever was before it. -/
theorem invariantsHoldAfterReset : Obligations.InvariantsHoldAfterReset := fun b pins legal =>
  ⟨BlockInv.of_resetRegisters (s := { State.reset with build := b, pins := pins }) legal,
    OnSequence.of_resetRegisters { State.reset with build := b, pins := pins }⟩

end Sys2Proof.Machine
end
